-- ==== Sys2Proof/Word.lean ====
section
/-! DEFINITION. The one word of the block: a byte (20_memory.md R61, R69). Every other quantity of the spec is a
natural number, an integer, a flag or a name; helpers on bits stand in Machine/Bits.lean. -/

namespace Sys2Proof

/-- One byte: a cell of `IN`, `RB.MEM`, `CMRAM`, `DICT_ROM` and of the sink stream (R62). -/
abbrev Byte := BitVec 8

end Sys2Proof
end

