-- ==== Sys2Proof/Machine/Rom.lean ====
section
/-! DEFINITION. The constant ROMs with the default contents the spec writes out (00_scope.md R6, 20_memory.md R62). The source
gives none of these contents: every table here is a stated default, see notes/assumptions/10.md. -/

namespace Sys2Proof

/-- R246: `BLEN_OFF`. -/
def blenOffRom : List Nat :=
  [1, 5, 9, 13, 17, 25, 33, 41, 49, 65, 81, 97, 113, 145, 177, 209] ++
  [241, 305, 369, 497, 753, 1265, 2289, 4385, 8481, 16625]

/-- R246: `BLEN_NB`. -/
def blenBitsRom : List Nat :=
  [2, 2, 2, 2, 3, 3, 3, 3, 4, 4, 4, 4, 5, 5, 5, 5, 6, 6, 7, 8, 9, 10, 11, 12, 13, 24]

/-- R246: the offset of a block length code. -/
def blenOff (code : Nat) : Nat := blenOffRom.getD code 0

/-- R246: the number of extra bits of a block length code. -/
def blenBits (code : Nat) : Nat := blenBitsRom.getD code 0

/-- R247: `INS_OFF`. -/
def insOffRom : List Nat :=
  [0, 1, 2, 3, 4, 5, 6, 8, 10, 14, 18, 26, 34, 50, 66, 98, 130, 194, 322, 578, 1090, 2114, 6210, 22594]

/-- R247: `INS_NB`. -/
def insBitsRom : List Nat :=
  [0, 0, 0, 0, 0, 0, 1, 1, 2, 2, 3, 3, 4, 4, 5, 5, 6, 7, 8, 9, 10, 12, 14, 24]

/-- R247: the offset of an insert length code. -/
def insOff (code : Nat) : Nat := insOffRom.getD code 0

/-- R247: the number of extra bits of an insert length code. -/
def insBits (code : Nat) : Nat := insBitsRom.getD code 0

/-- R248: `CPY_OFF`. -/
def cpyOffRom : List Nat :=
  [2, 3, 4, 5, 6, 7, 8, 9, 10, 12, 14, 18, 22, 30, 38, 54, 70, 102, 134, 198, 326, 582, 1094, 2118]

/-- R248: `CPY_NB`. -/
def cpyBitsRom : List Nat :=
  [0, 0, 0, 0, 0, 0, 0, 0, 1, 1, 2, 2, 3, 3, 4, 4, 5, 5, 6, 7, 8, 9, 10, 24]

/-- R248: the offset of a copy length code. -/
def cpyOff (code : Nat) : Nat := cpyOffRom.getD code 0

/-- R248: the number of extra bits of a copy length code. -/
def cpyBits (code : Nat) : Nat := cpyBitsRom.getD code 0

/-- R108: `INS_RANGE`. -/
def insRangeRom : List Nat := [0, 0, 8, 8, 0, 16, 8, 16, 16]

/-- R108: `CPY_RANGE`. -/
def cpyRangeRom : List Nat := [0, 8, 0, 8, 16, 0, 16, 8, 16]

/-- R108: the range index `r` of a cell. -/
def cellRange (cell : Nat) : Nat := if cell < 2 then cell else cell - 2

/-- R108: `insert_code` of a cell and an insert sub-index. -/
def insertCode (cell sub : Nat) : Nat := insRangeRom.getD (cellRange cell) 0 + sub

/-- R108: `copy_code` of a cell and a copy sub-index. -/
def copyCode (cell sub : Nat) : Nat := cpyRangeRom.getD (cellRange cell) 0 + sub

/-- R109: `DSC_IDX`. -/
def dscIdxRom : List Nat := [3, 2, 1, 0, 3, 3, 3, 3, 3, 3, 2, 2, 2, 2, 2, 2]

/-- R109: `DSC_VAL`. -/
def dscValRom : List Int := [0, 0, 0, 0, -1, 1, -2, 2, -3, 3, -1, 1, -2, 2, -3, 3]

/-- R109: the ring offset of a short distance code. -/
def dscIdx (c : Nat) : Nat := dscIdxRom.getD c 0

/-- R109: the value offset of a short distance code. -/
def dscVal (c : Nat) : Int := dscValRom.getD c 0

/-- R172: `CL_ORDER`. -/
def clOrderRom : List Nat := [1, 2, 3, 4, 0, 5, 17, 6, 16, 7, 8, 9, 10, 11, 12, 13, 14, 15]

/-- R172: the code-length symbol whose length is sent at place `i`. -/
def clOrder (i : Nat) : Nat := clOrderRom.getD i 0

/-- R172: `CL_VLC[p]`, the number of bits and the value, indexed by the next four stream bits. -/
def clVlcRom : List (Nat × Nat) :=
  [(2, 0), (2, 4), (2, 3), (3, 2), (2, 0), (2, 4), (2, 3), (4, 1),
   (2, 0), (2, 4), (2, 3), (3, 2), (2, 0), (2, 4), (2, 3), (4, 5)]

/-- R172: the entry of `CL_VLC` for the next four stream bits `p`. -/
def clVlc (p : Nat) : Nat × Nat := clVlcRom.getD p (0, 0)

/-- R263: `CTX_LUT0[0..127]`. -/
def ctxLut0Rom : List Nat :=
  [0, 0, 0, 0, 0, 0, 0, 0, 0, 4, 4, 0, 0, 4, 0, 0] ++
  [0, 0, 0, 0, 0, 0, 0, 0, 0, 0, 0, 0, 0, 0, 0, 0] ++
  [8, 12, 16, 12, 12, 20, 12, 16, 24, 28, 12, 12, 32, 12, 36, 12] ++
  [44, 44, 44, 44, 44, 44, 44, 44, 44, 44, 32, 32, 24, 40, 28, 12] ++
  [12, 48, 52, 52, 52, 48, 52, 52, 52, 48, 52, 52, 52, 52, 52, 48] ++
  [52, 52, 52, 52, 52, 48, 52, 52, 52, 52, 52, 24, 12, 28, 12, 12] ++
  [12, 56, 60, 60, 60, 56, 60, 60, 60, 56, 60, 60, 60, 60, 60, 56] ++
  [60, 60, 60, 60, 60, 56, 60, 60, 60, 60, 60, 24, 12, 28, 12, 0]

/-- R263: `CTX_LUT1[0..127]`. -/
def ctxLut1Rom : List Nat :=
  [0, 0, 0, 0, 0, 0, 0, 0, 0, 0, 0, 0, 0, 0, 0, 0] ++
  [0, 0, 0, 0, 0, 0, 0, 0, 0, 0, 0, 0, 0, 0, 0, 0] ++
  [0, 1, 1, 1, 1, 1, 1, 1, 1, 1, 1, 1, 1, 1, 1, 1] ++
  [2, 2, 2, 2, 2, 2, 2, 2, 2, 2, 1, 1, 1, 1, 1, 1] ++
  [1, 2, 2, 2, 2, 2, 2, 2, 2, 2, 2, 2, 2, 2, 2, 2] ++
  [2, 2, 2, 2, 2, 2, 2, 2, 2, 2, 2, 1, 1, 1, 1, 1] ++
  [1, 3, 3, 3, 3, 3, 3, 3, 3, 3, 3, 3, 3, 3, 3, 3] ++
  [3, 3, 3, 3, 3, 3, 3, 3, 3, 3, 3, 1, 1, 1, 1, 0]

/-- R263: `CTX_LUT0[b]` by default. -/
def ctxLut0 (b : Nat) : Nat :=
  if b < 128 then ctxLut0Rom.getD b 0 else if b < 192 then b % 2 else 2 + b % 2

/-- R263: `CTX_LUT1[b]` by default. -/
def ctxLut1 (b : Nat) : Nat :=
  if b < 128 then ctxLut1Rom.getD b 0 else if b < 224 then 0 else 2

/-- R263: `CTX_LUT2[b]` by default. -/
def ctxLut2 (b : Nat) : Nat :=
  if b = 0 then 0 else if b < 16 then 1 else if b < 64 then 2 else if b < 128 then 3
  else if b < 192 then 4 else if b < 240 then 5 else if b < 255 then 6 else 7

/-- R263: the default `CTX_LUT0`, 256 entries. -/
def ctxLut0Default : List Nat := (List.range 256).map ctxLut0

/-- R263: the default `CTX_LUT1`, 256 entries. -/
def ctxLut1Default : List Nat := (List.range 256).map ctxLut1

/-- R263: the default `CTX_LUT2`, 256 entries. -/
def ctxLut2Default : List Nat := (List.range 256).map ctxLut2

/-- R217: `DICT_NBITS`. -/
def dictBitsRom : List Nat :=
  [0, 0, 0, 0, 10, 10, 11, 11, 10, 10, 10, 10, 10, 9, 9, 8, 7, 7, 8, 7, 7, 6, 6, 5, 5]

/-- R217: the size-class shift of a word length; a place past the end reads 0 (DESIGN CHOICE, notes/assumptions/35.md). -/
def dictBits (len : Nat) : Nat := dictBitsRom.getD len 0

/-- R217: `DICT_OFF[len]` for `len` = 4 .. 25, the last one the size of the ROM. -/
def dictOffRom : List Nat :=
  [0, 4096, 9216, 21504, 35840, 44032, 53248, 63488, 74752, 87040, 93696,
   100864, 104704, 106752, 108928, 113536, 115968, 118528, 119872, 121280, 122016, 122784]

/-- R217: the address of the first word of a size class. R62 gives `DICT_OFF` 26 entries and R217 values for 4 .. 25 only: the four
of the lengths 0 .. 3, which no step reads, and any place past the end read 0 here (DESIGN CHOICE, notes/assumptions/35.md). -/
def dictOff (len : Nat) : Nat := dictOffRom.getD (len - 4) 0

/-- R221: the transform kinds. The spec has 21, with `k` of 1 .. 9; another `k`, which only a table in `par` other than the default
could hold, runs by the same formula (DESIGN CHOICE, notes/assumptions/12.md). -/
inductive XformKind where
  | identity
  /-- `OmitLast1` .. `OmitLast9` -/
  | omitLast (k : Nat)
  /-- `OmitFirst1` .. `OmitFirst9` -/
  | omitFirst (k : Nat)
  | uppercaseFirst
  | uppercaseAll
  deriving DecidableEq, Repr

/-- R220: one record of `TRANSFORM_ROM`: bytes put before, kind, bytes put after. -/
structure Xform where
  pre  : List Byte
  kind : XformKind
  post : List Byte
  deriving DecidableEq, Repr

/-- R224: records 0 to 19 of the default `TRANSFORM_ROM`. -/
def transformRom0 : List Xform :=
  [⟨[], .identity, []⟩,
   ⟨[], .identity, [32]⟩,
   ⟨[32], .identity, [32]⟩,
   ⟨[], .omitFirst 1, []⟩,
   ⟨[], .uppercaseFirst, [32]⟩,
   ⟨[], .identity, [32, 116, 104, 101, 32]⟩,
   ⟨[32], .identity, []⟩,
   ⟨[115, 32], .identity, [32]⟩,
   ⟨[], .identity, [32, 111, 102, 32]⟩,
   ⟨[], .uppercaseFirst, []⟩,
   ⟨[], .identity, [32, 97, 110, 100, 32]⟩,
   ⟨[], .omitFirst 2, []⟩,
   ⟨[], .omitLast 1, []⟩,
   ⟨[44, 32], .identity, [32]⟩,
   ⟨[], .identity, [44, 32]⟩,
   ⟨[32], .uppercaseFirst, [32]⟩,
   ⟨[], .identity, [32, 105, 110, 32]⟩,
   ⟨[], .identity, [32, 116, 111, 32]⟩,
   ⟨[101, 32], .identity, [32]⟩,
   ⟨[], .identity, [34]⟩]

/-- R224: records 20 to 39 of the default `TRANSFORM_ROM`. -/
def transformRom20 : List Xform :=
  [⟨[], .identity, [46]⟩,
   ⟨[], .identity, [34, 62]⟩,
   ⟨[], .identity, [10]⟩,
   ⟨[], .omitLast 3, []⟩,
   ⟨[], .identity, [93]⟩,
   ⟨[], .identity, [32, 102, 111, 114, 32]⟩,
   ⟨[], .omitFirst 3, []⟩,
   ⟨[], .omitLast 2, []⟩,
   ⟨[], .identity, [32, 97, 32]⟩,
   ⟨[], .identity, [32, 116, 104, 97, 116, 32]⟩,
   ⟨[32], .uppercaseFirst, []⟩,
   ⟨[], .identity, [46, 32]⟩,
   ⟨[46], .identity, []⟩,
   ⟨[32], .identity, [44, 32]⟩,
   ⟨[], .omitFirst 4, []⟩,
   ⟨[], .identity, [32, 119, 105, 116, 104, 32]⟩,
   ⟨[], .identity, [39]⟩,
   ⟨[], .identity, [32, 102, 114, 111, 109, 32]⟩,
   ⟨[], .identity, [32, 98, 121, 32]⟩,
   ⟨[], .omitFirst 5, []⟩]

/-- R224: records 40 to 59 of the default `TRANSFORM_ROM`. -/
def transformRom40 : List Xform :=
  [⟨[], .omitFirst 6, []⟩,
   ⟨[32, 116, 104, 101, 32], .identity, []⟩,
   ⟨[], .omitLast 4, []⟩,
   ⟨[], .identity, [46, 32, 84, 104, 101, 32]⟩,
   ⟨[], .uppercaseAll, []⟩,
   ⟨[], .identity, [32, 111, 110, 32]⟩,
   ⟨[], .identity, [32, 97, 115, 32]⟩,
   ⟨[], .identity, [32, 105, 115, 32]⟩,
   ⟨[], .omitLast 7, []⟩,
   ⟨[], .omitLast 1, [105, 110, 103, 32]⟩,
   ⟨[], .identity, [10, 9]⟩,
   ⟨[], .identity, [58]⟩,
   ⟨[32], .identity, [46, 32]⟩,
   ⟨[], .identity, [101, 100, 32]⟩,
   ⟨[], .omitFirst 9, []⟩,
   ⟨[], .omitFirst 7, []⟩,
   ⟨[], .omitLast 6, []⟩,
   ⟨[], .identity, [40]⟩,
   ⟨[], .uppercaseFirst, [44, 32]⟩,
   ⟨[], .omitLast 8, []⟩]

/-- R224: records 60 to 79 of the default `TRANSFORM_ROM`. -/
def transformRom60 : List Xform :=
  [⟨[], .identity, [32, 97, 116, 32]⟩,
   ⟨[], .identity, [108, 121, 32]⟩,
   ⟨[32, 116, 104, 101, 32], .identity, [32, 111, 102, 32]⟩,
   ⟨[], .omitLast 5, []⟩,
   ⟨[], .omitLast 9, []⟩,
   ⟨[32], .uppercaseFirst, [44, 32]⟩,
   ⟨[], .uppercaseFirst, [34]⟩,
   ⟨[46], .identity, [40]⟩,
   ⟨[], .uppercaseAll, [32]⟩,
   ⟨[], .uppercaseFirst, [34, 62]⟩,
   ⟨[], .identity, [61, 34]⟩,
   ⟨[32], .identity, [46]⟩,
   ⟨[46, 99, 111, 109, 47], .identity, []⟩,
   ⟨[32, 116, 104, 101, 32], .identity, [32, 111, 102, 32, 116, 104, 101, 32]⟩,
   ⟨[], .uppercaseFirst, [39]⟩,
   ⟨[], .identity, [46, 32, 84, 104, 105, 115, 32]⟩,
   ⟨[], .identity, [44]⟩,
   ⟨[46], .identity, [32]⟩,
   ⟨[], .uppercaseFirst, [40]⟩,
   ⟨[], .uppercaseFirst, [46]⟩]

/-- R224: records 80 to 99 of the default `TRANSFORM_ROM`. -/
def transformRom80 : List Xform :=
  [⟨[], .identity, [32, 110, 111, 116, 32]⟩,
   ⟨[32], .identity, [61, 34]⟩,
   ⟨[], .identity, [101, 114, 32]⟩,
   ⟨[32], .uppercaseAll, [32]⟩,
   ⟨[], .identity, [97, 108, 32]⟩,
   ⟨[32], .uppercaseAll, []⟩,
   ⟨[], .identity, [61, 39]⟩,
   ⟨[], .uppercaseAll, [34]⟩,
   ⟨[], .uppercaseFirst, [46, 32]⟩,
   ⟨[32], .identity, [40]⟩,
   ⟨[], .identity, [102, 117, 108, 32]⟩,
   ⟨[32], .uppercaseFirst, [46, 32]⟩,
   ⟨[], .identity, [105, 118, 101, 32]⟩,
   ⟨[], .identity, [108, 101, 115, 115, 32]⟩,
   ⟨[], .uppercaseAll, [39]⟩,
   ⟨[], .identity, [101, 115, 116, 32]⟩,
   ⟨[32], .uppercaseFirst, [46]⟩,
   ⟨[], .uppercaseAll, [34, 62]⟩,
   ⟨[32], .identity, [61, 39]⟩,
   ⟨[], .uppercaseFirst, [44]⟩]

/-- R224: records 100 to 119 of the default `TRANSFORM_ROM`. -/
def transformRom100 : List Xform :=
  [⟨[], .identity, [105, 122, 101, 32]⟩,
   ⟨[], .uppercaseAll, [46]⟩,
   ⟨[194, 160], .identity, []⟩,
   ⟨[32], .identity, [44]⟩,
   ⟨[], .uppercaseFirst, [61, 34]⟩,
   ⟨[], .uppercaseAll, [61, 34]⟩,
   ⟨[], .identity, [111, 117, 115, 32]⟩,
   ⟨[], .uppercaseAll, [44, 32]⟩,
   ⟨[], .uppercaseFirst, [61, 39]⟩,
   ⟨[32], .uppercaseFirst, [44]⟩,
   ⟨[32], .uppercaseAll, [61, 34]⟩,
   ⟨[32], .uppercaseAll, [44, 32]⟩,
   ⟨[], .uppercaseAll, [44]⟩,
   ⟨[], .uppercaseAll, [40]⟩,
   ⟨[], .uppercaseAll, [46, 32]⟩,
   ⟨[32], .uppercaseAll, [46]⟩,
   ⟨[], .uppercaseAll, [61, 39]⟩,
   ⟨[32], .uppercaseAll, [46, 32]⟩,
   ⟨[32], .uppercaseFirst, [61, 34]⟩,
   ⟨[32], .uppercaseAll, [61, 39]⟩]

/-- R224: records 120 to 120 of the default `TRANSFORM_ROM`. -/
def transformRom120 : List Xform :=
  [⟨[32], .uppercaseFirst, [61, 39]⟩]

/-- R224: the default `TRANSFORM_ROM`, 121 records. -/
def transformRom : List Xform :=
  transformRom0 ++ transformRom20 ++ transformRom40 ++ transformRom60 ++ transformRom80 ++ transformRom100 ++ transformRom120

end Sys2Proof
end

