-- ==== Sys2Proof/Syntax.lean ====
section
/-! DEFINITION. The instruction set: one constructor per row of spec/opcode_table.json (30_encoding.md R90, R112), in the
table's order. Stream elements carry the field values read from the stream; unit operations carry the operands of R113;
host writes and sequencer states carry nothing. -/

namespace Sys2Proof

/-- R9: a category, one of the three symbol streams with its own block-type state. -/
inductive Cat where
  | lit
  | cmd
  | dist
  deriving DecidableEq, Repr

/-- R15: the name of one Huffman table of table RAM. -/
inductive TableRef where
  /-- `BT_TREE[c]` -/
  | bt (c : Cat)
  /-- `BL_TREE[c]` -/
  | bl (c : Cat)
  /-- `CM_TREE` -/
  | cm
  /-- `CLC_TREE` -/
  | clc
  /-- `TG.L[i]` -/
  | tgL (i : Nat)
  /-- `TG.I[i]` -/
  | tgI (i : Nat)
  /-- `TG.D[i]` -/
  | tgD (i : Nat)
  deriving DecidableEq, Repr

/-- R150, R168, R171: the scratch array that `HT.BUILD` takes its code lengths from. -/
inductive LenSrc where
  /-- `HD.LEN` -/
  | len
  /-- `HD.CLCL` -/
  | clcl
  deriving DecidableEq, Repr

/-- Every row of the opcode table. -/
inductive Instr where
  /-- `ISLAST`, `F(1)`: 1 = final meta-block (R93). -/
  | islast (v : Bool)
  /-- `ISEMPTY`, `F(1)`: 1 = the final meta-block is empty (R93). -/
  | isempty (v : Bool)
  /-- `MNIBBLES`, `F(2)`: number of length nibbles minus 4 (R93). -/
  | mnibbles (n : Nat)
  /-- `MLEN_NIBBLE`, `F(4)`: one nibble of `MLEN - 1` (R105). -/
  | mlenNibble (d : Nat)
  /-- `ISUNCOMPRESSED`, `F(1)`: 1 = stored uncompressed (R93). -/
  | isuncompressed (v : Bool)
  /-- `PAD`: `n` ignored bits of value `x`, up to the next byte boundary (R91, R137). -/
  | pad (n : Nat) (x : Nat)
  /-- `RAWBYTE`: one stored byte (R91, R241). -/
  | rawbyte (b : Byte)
  /-- `VARLEN8.0`, pattern `0`: value 0 (R104). -/
  | varlen8Zero
  /-- `VARLEN8.1`, pattern `1000`: value 1 (R104). -/
  | varlen8One
  /-- `VARLEN8.N`, pattern `1nnnx*`: value `2^n + x` (R104). -/
  | varlen8N (n : Nat) (x : Nat)
  /-- `NBLTYPES`, spelt by `VARLEN8`: `NBT[c] - 1` (R94). -/
  | nbltypes (v : Nat)
  /-- `BLEN_FIRST`: block length code and its extra bits (R94, R250). -/
  | blenFirst (code : Nat) (x : Nat)
  /-- `NPOSTFIX`, `F(2)` (R94, R244). -/
  | npostfix (p : Nat)
  /-- `NDIRECT_HI`, `F(4)` (R94, R244). -/
  | ndirectHi (d : Nat)
  /-- `CMODE.LSB6`: context mode 0 (R262). -/
  | cmodeLsb6
  /-- `CMODE.MSB6`: context mode 1 (R262). -/
  | cmodeMsb6
  /-- `CMODE.UTF8`: context mode 2 (R262). -/
  | cmodeUtf8
  /-- `CMODE.SIGNED`: context mode 3 (R262). -/
  | cmodeSigned
  /-- `NTREES`, spelt by `VARLEN8`: `num_trees - 1` (R96, R185). -/
  | ntrees (v : Nat)
  /-- `RLEFLAG`, `F(1)`: 1 = run-length codes in use (R96). -/
  | rleflag (v : Bool)
  /-- `RLEMAX`, `F(4)`: `max_run_length_prefix - 1` (R96). -/
  | rlemax (m : Nat)
  /-- `CMSYM.ZERO`: symbol 0, one entry with tree 0 (R187). -/
  | cmsymZero
  /-- `CMSYM.RUN`: symbol `k` of `1 .. mrlp`, a run of zeros (R187). -/
  | cmsymRun (k : Nat)
  /-- `CMSYM.TREE`: symbol `k` above `mrlp`, one entry with tree `k - mrlp` (R187). -/
  | cmsymTree (k : Nat)
  /-- `CMRUN`, `F(k)`: extra bits of the run named by symbol `k` (R187). -/
  | cmrun (k : Nat) (x : Nat)
  /-- `IMTF`, `F(1)`: 1 = apply the inverse move-to-front (R96, R189). -/
  | imtf (v : Bool)
  /-- `HSKIP.SIMPLE`: selector 1 (R95, R168). -/
  | hskipSimple
  /-- `HSKIP.COMPLEX0`: selector 0, complicated form with 0 leading entries skipped (R95, R168). -/
  | hskipComplex0
  /-- `HSKIP.COMPLEX2`: selector 2, complicated form with 2 leading entries skipped (R95, R168). -/
  | hskipComplex2
  /-- `HSKIP.COMPLEX3`: selector 3, complicated form with 3 leading entries skipped (R95, R168). -/
  | hskipComplex3
  /-- `NSYM`, `F(2)`: number of symbols minus 1 (R95, R169). -/
  | nsym (n : Nat)
  /-- `SIMPLE_SYM`, `F(w)` with `w = bitlen(a-1)`: a symbol value (R95, R169). -/
  | simpleSym (w : Nat) (v : Nat)
  /-- `TREE_SELECT`, `F(1)`: 0 = lengths 2,2,2,2 and 1 = lengths 1,2,3,3 (R95, R169). -/
  | treeSelect (t : Bool)
  /-- `CLCL.0`: code-length-code length 0 (R172). -/
  | clcl0
  /-- `CLCL.3`: code-length-code length 3 (R172). -/
  | clcl3
  /-- `CLCL.4`: code-length-code length 4 (R172). -/
  | clcl4
  /-- `CLCL.2`: code-length-code length 2 (R172). -/
  | clcl2
  /-- `CLCL.1`: code-length-code length 1 (R172). -/
  | clcl1
  /-- `CLCL.5`: code-length-code length 5 (R172). -/
  | clcl5
  /-- `CLSYM.LEN0`: code length 0 (R111, R175). -/
  | clsymLen0
  /-- `CLSYM.LEN1`: code length 1 (R111, R175). -/
  | clsymLen1
  /-- `CLSYM.LEN2`: code length 2 (R111, R175). -/
  | clsymLen2
  /-- `CLSYM.LEN3`: code length 3 (R111, R175). -/
  | clsymLen3
  /-- `CLSYM.LEN4`: code length 4 (R111, R175). -/
  | clsymLen4
  /-- `CLSYM.LEN5`: code length 5 (R111, R175). -/
  | clsymLen5
  /-- `CLSYM.LEN6`: code length 6 (R111, R175). -/
  | clsymLen6
  /-- `CLSYM.LEN7`: code length 7 (R111, R175). -/
  | clsymLen7
  /-- `CLSYM.LEN8`: code length 8 (R111, R175). -/
  | clsymLen8
  /-- `CLSYM.LEN9`: code length 9 (R111, R175). -/
  | clsymLen9
  /-- `CLSYM.LEN10`: code length 10 (R111, R175). -/
  | clsymLen10
  /-- `CLSYM.LEN11`: code length 11 (R111, R175). -/
  | clsymLen11
  /-- `CLSYM.LEN12`: code length 12 (R111, R175). -/
  | clsymLen12
  /-- `CLSYM.LEN13`: code length 13 (R111, R175). -/
  | clsymLen13
  /-- `CLSYM.LEN14`: code length 14 (R111, R175). -/
  | clsymLen14
  /-- `CLSYM.LEN15`: code length 15 (R111, R175). -/
  | clsymLen15
  /-- `CLSYM.REPEAT`: symbol 16, repeat the previous non-zero length (R111, R175). -/
  | clsymRepeat
  /-- `CLSYM.ZEROS`: symbol 17, repeat zero (R111, R175). -/
  | clsymZeros
  /-- `CLREP_EXTRA.16`, `F(2)`: repeat count after symbol 16 (R95, R175). -/
  | clrepExtra16 (x : Nat)
  /-- `CLREP_EXTRA.17`, `F(3)`: repeat count after symbol 17 (R95, R175). -/
  | clrepExtra17 (x : Nat)
  /-- `BTSYM.PREV`: symbol 0, the block type before the current one (R110, R252). -/
  | btsymPrev
  /-- `BTSYM.NEXT`: symbol 1, current plus 1 (R110, R252). -/
  | btsymNext
  /-- `BTSYM.EXPLICIT`: symbol `k`, block type `k - 2` (R110, R252). -/
  | btsymExplicit (k : Nat)
  /-- `BLEN.0`: block length code 0, offset 1, 2 extra bits (R246). -/
  | blen0 (x : Nat)
  /-- `BLEN.1`: block length code 1, offset 5, 2 extra bits (R246). -/
  | blen1 (x : Nat)
  /-- `BLEN.2`: block length code 2, offset 9, 2 extra bits (R246). -/
  | blen2 (x : Nat)
  /-- `BLEN.3`: block length code 3, offset 13, 2 extra bits (R246). -/
  | blen3 (x : Nat)
  /-- `BLEN.4`: block length code 4, offset 17, 3 extra bits (R246). -/
  | blen4 (x : Nat)
  /-- `BLEN.5`: block length code 5, offset 25, 3 extra bits (R246). -/
  | blen5 (x : Nat)
  /-- `BLEN.6`: block length code 6, offset 33, 3 extra bits (R246). -/
  | blen6 (x : Nat)
  /-- `BLEN.7`: block length code 7, offset 41, 3 extra bits (R246). -/
  | blen7 (x : Nat)
  /-- `BLEN.8`: block length code 8, offset 49, 4 extra bits (R246). -/
  | blen8 (x : Nat)
  /-- `BLEN.9`: block length code 9, offset 65, 4 extra bits (R246). -/
  | blen9 (x : Nat)
  /-- `BLEN.10`: block length code 10, offset 81, 4 extra bits (R246). -/
  | blen10 (x : Nat)
  /-- `BLEN.11`: block length code 11, offset 97, 4 extra bits (R246). -/
  | blen11 (x : Nat)
  /-- `BLEN.12`: block length code 12, offset 113, 5 extra bits (R246). -/
  | blen12 (x : Nat)
  /-- `BLEN.13`: block length code 13, offset 145, 5 extra bits (R246). -/
  | blen13 (x : Nat)
  /-- `BLEN.14`: block length code 14, offset 177, 5 extra bits (R246). -/
  | blen14 (x : Nat)
  /-- `BLEN.15`: block length code 15, offset 209, 5 extra bits (R246). -/
  | blen15 (x : Nat)
  /-- `BLEN.16`: block length code 16, offset 241, 6 extra bits (R246). -/
  | blen16 (x : Nat)
  /-- `BLEN.17`: block length code 17, offset 305, 6 extra bits (R246). -/
  | blen17 (x : Nat)
  /-- `BLEN.18`: block length code 18, offset 369, 7 extra bits (R246). -/
  | blen18 (x : Nat)
  /-- `BLEN.19`: block length code 19, offset 497, 8 extra bits (R246). -/
  | blen19 (x : Nat)
  /-- `BLEN.20`: block length code 20, offset 753, 9 extra bits (R246). -/
  | blen20 (x : Nat)
  /-- `BLEN.21`: block length code 21, offset 1265, 10 extra bits (R246). -/
  | blen21 (x : Nat)
  /-- `BLEN.22`: block length code 22, offset 2289, 11 extra bits (R246). -/
  | blen22 (x : Nat)
  /-- `BLEN.23`: block length code 23, offset 4385, 12 extra bits (R246). -/
  | blen23 (x : Nat)
  /-- `BLEN.24`: block length code 24, offset 8481, 13 extra bits (R246). -/
  | blen24 (x : Nat)
  /-- `BLEN.25`: block length code 25, offset 16625, 24 extra bits (R246). -/
  | blen25 (x : Nat)
  /-- `CMDSYM.CELL0`: symbols 0 to 63, insert sub-index `i`, copy sub-index `c` (R108). -/
  | cmdsymCell0 (i : Nat) (c : Nat)
  /-- `CMDSYM.CELL1`: symbols 64 to 127, insert sub-index `i`, copy sub-index `c` (R108). -/
  | cmdsymCell1 (i : Nat) (c : Nat)
  /-- `CMDSYM.CELL2`: symbols 128 to 191, insert sub-index `i`, copy sub-index `c` (R108). -/
  | cmdsymCell2 (i : Nat) (c : Nat)
  /-- `CMDSYM.CELL3`: symbols 192 to 255, insert sub-index `i`, copy sub-index `c` (R108). -/
  | cmdsymCell3 (i : Nat) (c : Nat)
  /-- `CMDSYM.CELL4`: symbols 256 to 319, insert sub-index `i`, copy sub-index `c` (R108). -/
  | cmdsymCell4 (i : Nat) (c : Nat)
  /-- `CMDSYM.CELL5`: symbols 320 to 383, insert sub-index `i`, copy sub-index `c` (R108). -/
  | cmdsymCell5 (i : Nat) (c : Nat)
  /-- `CMDSYM.CELL6`: symbols 384 to 447, insert sub-index `i`, copy sub-index `c` (R108). -/
  | cmdsymCell6 (i : Nat) (c : Nat)
  /-- `CMDSYM.CELL7`: symbols 448 to 511, insert sub-index `i`, copy sub-index `c` (R108). -/
  | cmdsymCell7 (i : Nat) (c : Nat)
  /-- `CMDSYM.CELL8`: symbols 512 to 575, insert sub-index `i`, copy sub-index `c` (R108). -/
  | cmdsymCell8 (i : Nat) (c : Nat)
  /-- `CMDSYM.CELL9`: symbols 576 to 639, insert sub-index `i`, copy sub-index `c` (R108). -/
  | cmdsymCell9 (i : Nat) (c : Nat)
  /-- `CMDSYM.CELL10`: symbols 640 to 703, insert sub-index `i`, copy sub-index `c` (R108). -/
  | cmdsymCell10 (i : Nat) (c : Nat)
  /-- `INS.0`: insert length code 0, offset 0, 0 extra bits (R247). -/
  | ins0
  /-- `INS.1`: insert length code 1, offset 1, 0 extra bits (R247). -/
  | ins1
  /-- `INS.2`: insert length code 2, offset 2, 0 extra bits (R247). -/
  | ins2
  /-- `INS.3`: insert length code 3, offset 3, 0 extra bits (R247). -/
  | ins3
  /-- `INS.4`: insert length code 4, offset 4, 0 extra bits (R247). -/
  | ins4
  /-- `INS.5`: insert length code 5, offset 5, 0 extra bits (R247). -/
  | ins5
  /-- `INS.6`: insert length code 6, offset 6, 1 extra bits (R247). -/
  | ins6 (x : Nat)
  /-- `INS.7`: insert length code 7, offset 8, 1 extra bits (R247). -/
  | ins7 (x : Nat)
  /-- `INS.8`: insert length code 8, offset 10, 2 extra bits (R247). -/
  | ins8 (x : Nat)
  /-- `INS.9`: insert length code 9, offset 14, 2 extra bits (R247). -/
  | ins9 (x : Nat)
  /-- `INS.10`: insert length code 10, offset 18, 3 extra bits (R247). -/
  | ins10 (x : Nat)
  /-- `INS.11`: insert length code 11, offset 26, 3 extra bits (R247). -/
  | ins11 (x : Nat)
  /-- `INS.12`: insert length code 12, offset 34, 4 extra bits (R247). -/
  | ins12 (x : Nat)
  /-- `INS.13`: insert length code 13, offset 50, 4 extra bits (R247). -/
  | ins13 (x : Nat)
  /-- `INS.14`: insert length code 14, offset 66, 5 extra bits (R247). -/
  | ins14 (x : Nat)
  /-- `INS.15`: insert length code 15, offset 98, 5 extra bits (R247). -/
  | ins15 (x : Nat)
  /-- `INS.16`: insert length code 16, offset 130, 6 extra bits (R247). -/
  | ins16 (x : Nat)
  /-- `INS.17`: insert length code 17, offset 194, 7 extra bits (R247). -/
  | ins17 (x : Nat)
  /-- `INS.18`: insert length code 18, offset 322, 8 extra bits (R247). -/
  | ins18 (x : Nat)
  /-- `INS.19`: insert length code 19, offset 578, 9 extra bits (R247). -/
  | ins19 (x : Nat)
  /-- `INS.20`: insert length code 20, offset 1090, 10 extra bits (R247). -/
  | ins20 (x : Nat)
  /-- `INS.21`: insert length code 21, offset 2114, 12 extra bits (R247). -/
  | ins21 (x : Nat)
  /-- `INS.22`: insert length code 22, offset 6210, 14 extra bits (R247). -/
  | ins22 (x : Nat)
  /-- `INS.23`: insert length code 23, offset 22594, 24 extra bits (R247). -/
  | ins23 (x : Nat)
  /-- `CPY.0`: copy length code 0, offset 2, 0 extra bits (R248). -/
  | cpy0
  /-- `CPY.1`: copy length code 1, offset 3, 0 extra bits (R248). -/
  | cpy1
  /-- `CPY.2`: copy length code 2, offset 4, 0 extra bits (R248). -/
  | cpy2
  /-- `CPY.3`: copy length code 3, offset 5, 0 extra bits (R248). -/
  | cpy3
  /-- `CPY.4`: copy length code 4, offset 6, 0 extra bits (R248). -/
  | cpy4
  /-- `CPY.5`: copy length code 5, offset 7, 0 extra bits (R248). -/
  | cpy5
  /-- `CPY.6`: copy length code 6, offset 8, 0 extra bits (R248). -/
  | cpy6
  /-- `CPY.7`: copy length code 7, offset 9, 0 extra bits (R248). -/
  | cpy7
  /-- `CPY.8`: copy length code 8, offset 10, 1 extra bits (R248). -/
  | cpy8 (x : Nat)
  /-- `CPY.9`: copy length code 9, offset 12, 1 extra bits (R248). -/
  | cpy9 (x : Nat)
  /-- `CPY.10`: copy length code 10, offset 14, 2 extra bits (R248). -/
  | cpy10 (x : Nat)
  /-- `CPY.11`: copy length code 11, offset 18, 2 extra bits (R248). -/
  | cpy11 (x : Nat)
  /-- `CPY.12`: copy length code 12, offset 22, 3 extra bits (R248). -/
  | cpy12 (x : Nat)
  /-- `CPY.13`: copy length code 13, offset 30, 3 extra bits (R248). -/
  | cpy13 (x : Nat)
  /-- `CPY.14`: copy length code 14, offset 38, 4 extra bits (R248). -/
  | cpy14 (x : Nat)
  /-- `CPY.15`: copy length code 15, offset 54, 4 extra bits (R248). -/
  | cpy15 (x : Nat)
  /-- `CPY.16`: copy length code 16, offset 70, 5 extra bits (R248). -/
  | cpy16 (x : Nat)
  /-- `CPY.17`: copy length code 17, offset 102, 5 extra bits (R248). -/
  | cpy17 (x : Nat)
  /-- `CPY.18`: copy length code 18, offset 134, 6 extra bits (R248). -/
  | cpy18 (x : Nat)
  /-- `CPY.19`: copy length code 19, offset 198, 7 extra bits (R248). -/
  | cpy19 (x : Nat)
  /-- `CPY.20`: copy length code 20, offset 326, 8 extra bits (R248). -/
  | cpy20 (x : Nat)
  /-- `CPY.21`: copy length code 21, offset 582, 9 extra bits (R248). -/
  | cpy21 (x : Nat)
  /-- `CPY.22`: copy length code 22, offset 1094, 10 extra bits (R248). -/
  | cpy22 (x : Nat)
  /-- `CPY.23`: copy length code 23, offset 2118, 24 extra bits (R248). -/
  | cpy23 (x : Nat)
  /-- `LITERAL`: one output byte (R97, R260). -/
  | literal (b : Byte)
  /-- `DISTSYM.SHORT0`: short distance code 0 (R109, R266). -/
  | distsymShort0
  /-- `DISTSYM.SHORT1`: short distance code 1 (R109, R266). -/
  | distsymShort1
  /-- `DISTSYM.SHORT2`: short distance code 2 (R109, R266). -/
  | distsymShort2
  /-- `DISTSYM.SHORT3`: short distance code 3 (R109, R266). -/
  | distsymShort3
  /-- `DISTSYM.SHORT4`: short distance code 4 (R109, R266). -/
  | distsymShort4
  /-- `DISTSYM.SHORT5`: short distance code 5 (R109, R266). -/
  | distsymShort5
  /-- `DISTSYM.SHORT6`: short distance code 6 (R109, R266). -/
  | distsymShort6
  /-- `DISTSYM.SHORT7`: short distance code 7 (R109, R266). -/
  | distsymShort7
  /-- `DISTSYM.SHORT8`: short distance code 8 (R109, R266). -/
  | distsymShort8
  /-- `DISTSYM.SHORT9`: short distance code 9 (R109, R266). -/
  | distsymShort9
  /-- `DISTSYM.SHORT10`: short distance code 10 (R109, R266). -/
  | distsymShort10
  /-- `DISTSYM.SHORT11`: short distance code 11 (R109, R266). -/
  | distsymShort11
  /-- `DISTSYM.SHORT12`: short distance code 12 (R109, R266). -/
  | distsymShort12
  /-- `DISTSYM.SHORT13`: short distance code 13 (R109, R266). -/
  | distsymShort13
  /-- `DISTSYM.SHORT14`: short distance code 14 (R109, R266). -/
  | distsymShort14
  /-- `DISTSYM.SHORT15`: short distance code 15 (R109, R266). -/
  | distsymShort15
  /-- `DISTSYM.DIRECT`: direct distance code `c`, 16 .. NUMDIRECT-1 (R109, R266). -/
  | distsymDirect (c : Nat)
  /-- `DISTSYM.LONG`: long distance code `c`, NUMDIRECT .. NDIST-1 (R109, R265). -/
  | distsymLong (c : Nat)
  /-- `DIST_EXTRA`, `F(nb)`: extra bits of a long distance code (R97, R265). -/
  | distExtra (nb : Nat) (x : Nat)
  /-- `BR.FILL`, operation 0.0 (R132). -/
  | brFill
  /-- `BR.PEEK(n)`, operation 0.1 (R134). -/
  | brPeek (n : Nat)
  /-- `BR.DROP(n)`, operation 0.2 (R135). -/
  | brDrop (n : Nat)
  /-- `BR.READ(n)`, operation 0.3 (R136). -/
  | brRead (n : Nat)
  /-- `BR.ALIGN()`, operation 0.4 (R137). -/
  | brAlign
  /-- `BR.BYTE()`, operation 0.5 (R138). -/
  | brByte
  /-- `HT.BUILD(len, a, R)`, operation 1.0: `src` names the scratch array that holds `len` (R150). -/
  | htBuild (src : LenSrc) (a : Nat) (r : Nat)
  /-- `HD.SYM(t)`, operation 2.0 (R166). -/
  | hdSym (t : TableRef)
  /-- `HD.READCODE(a)`, operation 2.1 (R168). -/
  | hdReadcode (a : Nat)
  /-- `HD.SIMPLE(a)`, operation 2.2 (R169). -/
  | hdSimple (a : Nat)
  /-- `HD.COMPLEX(a, skip)`, operation 2.3 (R171). -/
  | hdComplex (a : Nat) (skip : Nat)
  /-- `CM.DECODE(n)`, operation 3.0 (R185). -/
  | cmDecode (n : Nat)
  /-- `CM.IMTF(m, n)`, operation 3.1, over the map being decoded (R189). -/
  | cmImtf
  /-- `RB.PUT(b)`, operation 4.0 (R199). -/
  | rbPut (b : Byte)
  /-- `RB.GET(d)`, operation 4.1 (R200). -/
  | rbGet (d : Nat)
  /-- `RB.COPY(d, n)`, operation 4.2 (R201). -/
  | rbCopy (d : Nat) (n : Nat)
  /-- `RB.FLUSH`, operation 4.3: the wrap flush, in state `FLUSH` the final flush (R203, R204). -/
  | rbFlush
  /-- `SD.LOOKUP(len, word_id)`, operation 5.0 (R219). -/
  | sdLookup (len : Nat) (wordId : Nat)
  /-- `SD.TRANSFORM(word, t)`, operation 5.1 (R222). -/
  | sdTransform (word : List Byte) (t : Nat)
  /-- `START`, operation 7.0 (R235). -/
  | opStart
  /-- `ABORT`, operation 7.1 (R236). -/
  | opAbort
  /-- `SIZEQ`, operation 7.2 (R280). -/
  | opSizeq
  /-- host write of 1 to `CTRL` (R26). -/
  | ctrlStart
  /-- host write of 2 to `CTRL` (R26). -/
  | ctrlAbort
  /-- host write of 3 to `CTRL` (R26). -/
  | ctrlSizeq
  /-- a visit of the sequencer state `IDLE` (R235). -/
  | cdIdle
  /-- a visit of the sequencer state `MB_BEGIN` (R237). -/
  | cdMbBegin
  /-- a visit of the sequencer state `MB_HEADER` (R238). -/
  | cdMbHeader
  /-- a visit of the sequencer state `UNCOMPRESSED_COPY` (R241). -/
  | cdUncompressedCopy
  /-- a visit of the sequencer state `HDR_BLOCKS` (R243). -/
  | cdHdrBlocks
  /-- a visit of the sequencer state `HDR_DISTPARAMS` (R244). -/
  | cdHdrDistparams
  /-- a visit of the sequencer state `HDR_CTXMODES` (R245). -/
  | cdHdrCtxmodes
  /-- a visit of the sequencer state `HDR_CMAP_L` (R253). -/
  | cdHdrCmapL
  /-- a visit of the sequencer state `HDR_CMAP_D` (R254). -/
  | cdHdrCmapD
  /-- a visit of the sequencer state `HDR_TREES` (R255). -/
  | cdHdrTrees
  /-- a visit of the sequencer state `CMD_BEGIN` (R257). -/
  | cdCmdBegin
  /-- a visit of the sequencer state `CMD_LITERAL` (R260). -/
  | cdCmdLiteral
  /-- a visit of the sequencer state `CMD_DISTANCE` (R264). -/
  | cdCmdDistance
  /-- a visit of the sequencer state `CMD_COPY_WINDOW` (R270). -/
  | cdCmdCopyWindow
  /-- a visit of the sequencer state `CMD_COPY_DICT` (R274). -/
  | cdCmdCopyDict
  /-- a visit of the sequencer state `CMD_END` (R275). -/
  | cdCmdEnd
  /-- a visit of the sequencer state `MB_DONE` (R277). -/
  | cdMbDone
  /-- a visit of the sequencer state `FLUSH` (R278). -/
  | cdFlush
  /-- a visit of the sequencer state `FINISHED` (R279). -/
  | cdFinished
  /-- a visit of the sequencer state `ERROR` (R306). -/
  | cdError
  deriving DecidableEq, Repr

end Sys2Proof
end

