-- ==== Sys2Proof/Machine/Tables.lean ====
section
/-! DEFINITION. Plain-data types of the table RAM, the code-reading scratch and the context-map RAM (10_state.md R15 to R17).
They stand apart from Machine/State.lean so that Config.lean can name free values of them. -/

namespace Sys2Proof

/-- R152: one entry of a Huffman table. -/
inductive Entry where
  /-- consume `bits`, the symbol is `sym` -/
  | terminal (bits sym : Nat)
  /-- root level only: a sub-table of `2^subBits` entries at index `base` of the same table -/
  | redirect (subBits base : Nat)
  deriving DecidableEq, Repr, Inhabited

/-- R15, R150: a Huffman table, its root width and its entries (root level, then the sub-tables, R64). -/
structure Table where
  rootBits : Nat
  entries  : List Entry
  deriving DecidableEq, Repr, Inhabited

/-- One item for each category L, I, D (R9). -/
structure PerCat (α : Type) where
  lit  : α
  cmd  : α
  dist : α
  deriving DecidableEq, Repr, Inhabited

/-- The item of a category. -/
def PerCat.get {α : Type} (p : PerCat α) : Cat → α
  | .lit => p.lit
  | .cmd => p.cmd
  | .dist => p.dist

/-- The items with that of one category replaced. -/
def PerCat.set {α : Type} (p : PerCat α) (c : Cat) (v : α) : PerCat α :=
  match c with
  | .lit => { p with lit := v }
  | .cmd => { p with cmd := v }
  | .dist => { p with dist := v }

/-- R15: the tables that exist at one time. `none`, or an index past the end of a group, is a table that is not valid. -/
structure TableRam where
  /-- `BT_TREE[c]` -/
  bt  : PerCat (Option Table)
  /-- `BL_TREE[c]` -/
  bl  : PerCat (Option Table)
  /-- `CM_TREE` -/
  cm  : Option Table
  /-- `CLC_TREE` -/
  clc : Option Table
  /-- `TG.L` -/
  tgL : List Table
  /-- `TG.I` -/
  tgI : List Table
  /-- `TG.D` -/
  tgD : List Table
  /-- the table that the last `HT.BUILD` returned (R150) -/
  out : Option Table
  deriving DecidableEq, Repr, Inhabited

/-- R15, R237: no table is valid. -/
def TableRam.none : TableRam :=
  { bt := ⟨.none, .none, .none⟩, bl := ⟨.none, .none, .none⟩, cm := .none, clc := .none,
    tgL := [], tgI := [], tgD := [], out := .none }

/-- R16, R168 to R175: the scratch of code reading. -/
structure CodeRegs where
  /-- `a`, the alphabet size of the code being read -/
  a       : Nat
  /-- `HD.LEN` -/
  len     : List Nat
  /-- `HD.CLCL` -/
  clcl    : List Nat
  /-- `s[0], s[1], ..`, the symbols of a simple code read so far -/
  syms    : List Nat
  /-- `i` of R171 -/
  i       : Nat
  /-- `ncodes` of R171 -/
  ncodes  : Nat
  /-- `space` of R171 and R174; it can go negative -/
  space   : Int
  /-- `symbol` of R174 -/
  symbol  : Nat
  /-- `prev_len` of R174 -/
  prevLen : Nat
  /-- `repeat` of R174 -/
  rep     : Nat
  /-- `rep_len` of R174 -/
  repLen  : Nat
  deriving DecidableEq, Repr, Inhabited

/-- R17, R185: the context maps and the registers of a map being decoded. -/
structure MapRam where
  /-- `CMAP_L` -/
  mapL : List Byte
  /-- `CMAP_D` -/
  mapD : List Byte
  /-- `n` of `CM.DECODE(n)` -/
  n    : Nat
  /-- `num_trees` -/
  num  : Nat
  /-- `mrlp` -/
  mrlp : Nat
  /-- `i` -/
  i    : Nat
  /-- the symbol of the run being read -/
  k    : Nat
  /-- `m[0 .. n-1]` -/
  m    : List Byte
  deriving DecidableEq, Repr, Inhabited

end Sys2Proof
end

