-- ==== Sys2Proof/Config.lean ====
section
/-! DEFINITION. What an implementation fixes (00_scope.md R6) and the free values. A constant with a body has the value the
spec states as its default; an `opaque` one has none and nothing can be proved of its value. -/

namespace Sys2Proof.Config

/-- R6: `REG_W`, the stated default. Not observable (R140). -/
def regW : Nat := 32

/-- R6: `MAX_CODE_LEN`. -/
def maxCodeLen : Nat := 15

/-- R6: `ROOT_BITS` of every table but the code-length code's. Not observable (R158). -/
def rootBits : Nat := 8

/-- R6, R171: the root width of the code-length code. -/
def clRootBits : Nat := 5

/-- R6: `DICT_MIN_LEN`. -/
def dictMinLen : Nat := 4

/-- R6: `DICT_MAX_LEN`. -/
def dictMaxLen : Nat := 24

/-- R6, R131, R224, R263: the parameters that a run can observe and the spec leaves as arguments. They are a field of State
that no step writes, so a statement about every state holds for every choice (notes/assumptions/12.md). -/
structure Params where
  /-- `P_UNCOMP_FLAG_IN_FINAL` (R240) -/
  uncompFlagInFinal : Bool
  /-- `WINDOW_GAP` (R196) -/
  windowGap : Nat
  /-- whether DEC holds for a whole prefetch window, which R131 permits and does not require -/
  prefetchHold : Bool
  /-- `TRANSFORM_ROM` (R220, R224) -/
  transforms : List Xform
  /-- `CTX_LUT0` (R263), 256 entries -/
  ctxLut0 : List Nat
  /-- `CTX_LUT1` (R263), 256 entries -/
  ctxLut1 : List Nat
  /-- `CTX_LUT2` (R263), 256 entries -/
  ctxLut2 : List Nat
  deriving DecidableEq, Repr, Inhabited

/-- R6: the stated defaults. -/
def Params.default : Params :=
  { uncompFlagInFinal := false, windowGap := 16, prefetchHold := false, transforms := transformRom,
    ctxLut0 := ctxLut0Default, ctxLut1 := ctxLut1Default, ctxLut2 := ctxLut2Default }

/-- R6, R220: `N_TRANSFORMS`, the number of records of `TRANSFORM_ROM`; 121 with the default table. -/
def Params.nTransforms (p : Params) : Nat := p.transforms.length

/-- R216: `DICT_ROM`, a parameter whose contents the spec does not give. -/
opaque dictRom : Nat → Byte

/-- R306: the contents, after the `n`-th free value, of the table of a name, unspecified; `none` is the table that the last
`HT.BUILD` returned. -/
opaque freeTable : Nat → Option TableRef → Table

/-- R306: the other scratch of code reading after a fault, unspecified. -/
opaque freeCodeRegs : Nat → CodeRegs

/-- R306: `HD.LEN[k]` after a fault, unspecified. -/
opaque freeLen : Nat → Nat → BitVec 4

/-- R306: `HD.CLCL[k]` after a fault, unspecified. -/
opaque freeClcl : Nat → Nat → BitVec 3

/-- R306, R190: entry `k` of a context map after a fault, unspecified; `true` is `CMAP_L`. -/
opaque freeMapEntry : Nat → Bool → Nat → Byte

/-- R306: the registers of a context map being decoded after a fault, unspecified. -/
opaque freeMapRegs : Nat → MapRam

/-- R306: contents of `SD.OUT` after a fault, unspecified. -/
opaque freeBytes : Nat → List Byte

/-- R21: `CMODE[k]` at `MB_BEGIN`, unspecified. -/
opaque freeMode : Nat → Nat → BitVec 2

end Sys2Proof.Config
end

