-- ==== Sys2Proof/Machine/Bits.lean ====
section
/-! DEFINITION. Bit-field helpers: stream bit order (20_memory.md R60), `bitlen` (00_scope.md R7), reversal of a codeword
(41_huffman_table_builder.md R153). -/

namespace Sys2Proof

/-- `bitlen` with fuel: the number of bits of the binary form of `v`, at most `fuel`. -/
def bitlenFuel : Nat → Nat → Nat
  | 0, _ => 0
  | fuel + 1, v => if v = 0 then 0 else bitlenFuel fuel (v / 2) + 1

/-- R7: `bitlen(v)`, the number of bits in the binary form of `v` (`v < 2^64` in every use). -/
def bitlen (v : Nat) : Nat := bitlenFuel 64 v

/-- R153: the `l`-bit reversal of `v`. -/
def revBits : Nat → Nat → Nat
  | 0, _ => 0
  | l + 1, v => (v % 2) * 2 ^ l + revBits l (v / 2)

/-- R133: `byte(i)`, the `i`-th input byte, zero past the bytes delivered. -/
def streamByte (input : List Byte) (i : Nat) : Byte := input.getD i 0

/-- R60, R133: bit `k` of the stream is bit `k mod 8` of byte `k div 8`. -/
def streamBit (input : List Byte) (k : Nat) : Bool := (streamByte input (k / 8)).getLsbD (k % 8)

/-- The value of a list of bytes, the first in the low eight bits (R60: fields run from low to high). -/
def leNat : List Byte → Nat
  | [] => 0
  | b :: r => b.toNat + 256 * leNat r

/-- R134: the next `n` stream bits from position `cur`, first bit in bit 0, zeros past the end. -/
def streamWindow (input : List Byte) (cur n : Nat) : Nat :=
  leNat ((input.drop (cur / 8)).take (n / 8 + 2)) / 2 ^ (cur % 8) % 2 ^ n

/-- The `n` bytes of `v`, least significant first (R60). -/
def bytesOfNat : Nat → Nat → List Byte
  | 0, _ => []
  | n + 1, v => BitVec.ofNat 8 v :: bytesOfNat n (v / 256)

end Sys2Proof
end

