-- ==== Sys2Proof/Machine/Huffman.lean ====
section
/-! DEFINITION. The table builder (41_huffman_table_builder.md R150 to R157) and the table lookup of `HD.SYM`
(42_huffman_code_reader.md R166), as pure functions of code lengths, tables and stream bits. -/

namespace Sys2Proof

/-- R150: the used symbols with their lengths, in symbol order. -/
def usedSyms (lens : List Nat) : List (Nat × Nat) :=
  lens.zipIdx.filterMap fun p => if p.1 = 0 then none else some (p.2, p.1)

/-- R153: the used symbols sorted by (length, symbol). -/
def canonOrder (lens : List Nat) : List (Nat × Nat) :=
  (List.range' 1 Config.maxCodeLen).flatMap fun l => (usedSyms lens).filter fun p => p.2 == l

/-- R151: the code space that the used symbols fill, in units of `2^-15`. -/
def codeSpace (lens : List Nat) : Nat :=
  ((usedSyms lens).map fun p => 2 ^ (Config.maxCodeLen - p.2)).sum

/-- R153: a symbol with its length and its codeword (most significant bit first in the stream). -/
structure Coded where
  sym  : Nat
  len  : Nat
  code : Nat
  deriving DecidableEq, Repr

/-- R153: `code_(i+1) = (code_i + 1) << (l_(i+1) - l_i)`; `next` is `code_i + 1`, 0 at the start. -/
def assignCodes : Nat → Nat → List (Nat × Nat) → List Coded
  | _, _, [] => []
  | next, l, (s, l') :: rest =>
    ⟨s, l', next <<< (l' - l)⟩ :: assignCodes ((next <<< (l' - l)) + 1) l' rest

/-- R153: the canonical code of a length array. -/
def canonicalCode (lens : List Nat) : List Coded := assignCodes 0 0 (canonOrder lens)

/-- R153: the index under which a codeword is stored, its bit reversal. -/
def Coded.key (c : Coded) : Nat := revBits c.len c.code

/-- R154: place a symbol of length at most `r` in the root level. -/
def placeRoot (r : Nat) (entries : List Entry) (c : Coded) : List Entry :=
  if c.len ≤ r then
    entries.mapIdx fun k e => if k % 2 ^ c.len = c.key then .terminal c.len c.sym else e
  else entries

/-- R156: the loop of `width(l)`; `left` is `left` after the subtraction's doubling, `rem` the symbols not yet placed. -/
def subWidth (r : Nat) (rem : List Coded) : Nat → Nat → Int → Nat
  | 0, l, _ => l - r
  | fuel + 1, l, left =>
    if l < Config.maxCodeLen then
      let left' := left - ((rem.filter fun c => c.len == l).length : Int)
      if left' ≤ 0 then l - r else subWidth r rem fuel (l + 1) (2 * left')
    else l - r

/-- R155: the second level. `curLow` is the open sub-table's root index with its width and base, `rem` the symbols with
`l > R` not yet placed, in canonical order; the next free entry is the length of `entries`. -/
def placeSubs (r : Nat) : Option (Nat × Nat × Nat) → List Entry → List Coded → List Entry
  | _, entries, [] => entries
  | cur, entries, c :: rest =>
    let low := c.key % 2 ^ r
    let hi := c.key / 2 ^ r
    let place (subBits base : Nat) (es : List Entry) : List Entry :=
      es.mapIdx fun k e =>
        if base ≤ k ∧ k < base + 2 ^ subBits ∧ (k - base) % 2 ^ (c.len - r) = hi then
          .terminal (c.len - r) c.sym
        else e
    let opened : Nat × Nat × List Entry :=
      match cur with
      | some (l, subBits, base) =>
        if l = low then (subBits, base, entries)
        else
          let w := subWidth r (c :: rest) Config.maxCodeLen c.len (2 ^ (c.len - r))
          (w, entries.length,
            (entries.set low (.redirect w entries.length)) ++ List.replicate (2 ^ w) (.terminal 0 0))
      | none =>
        let w := subWidth r (c :: rest) Config.maxCodeLen c.len (2 ^ (c.len - r))
        (w, entries.length,
          (entries.set low (.redirect w entries.length)) ++ List.replicate (2 ^ w) (.terminal 0 0))
    placeSubs r (some (low, opened.1, opened.2.1)) (place opened.1 opened.2.1 opened.2.2) rest

/-- R157: the table of a code with one used symbol: every root entry consumes no bits. -/
def singleTable (r sym : Nat) : Table := ⟨r, List.replicate (2 ^ r) (.terminal 0 sym)⟩

/-- R154, R155: the table of a complete canonical code. -/
def fullTable (r : Nat) (lens : List Nat) : Table :=
  let codes := canonicalCode lens
  let root := codes.foldl (placeRoot r) (List.replicate (2 ^ r) (.terminal 0 0))
  ⟨r, placeSubs r none root (codes.filter fun c => decide (r < c.len))⟩

/-- R150, R151: `HT.BUILD` as a function: a table, or the sub-code of `malformed-huffman`. -/
def buildTable (lens : List Nat) (r : Nat) : Except Nat Table :=
  match usedSyms lens with
  | [] => .error 1
  | [p] => .ok (singleTable r p.1)
  | _ => if codeSpace lens = 2 ^ Config.maxCodeLen then .ok (fullTable r lens) else .error 2

/-- One read of the bit reader: it waits for `need` bits and consumes `drop` of them (R131, R135). -/
structure Field where
  need : Nat
  drop : Nat
  deriving DecidableEq, Repr

/-- R166, R167: look a symbol up in a table by the stream bits `w` (first bit in bit 0). The answer is the symbol and what
`HD.SYM` waits for and consumes: it peeks the root width, and for a redirect also the width of the sub-table, and drops the
length of the codeword. R166 writes the drop of a redirected symbol in two parts and R167 as the one `BR.DROP(len[s])`; they
differ in where a fault inside the codeword leaves `BR.CUR`, and R167 with ruling D5 (at the first bit of the element) is
followed (DEDUCED, notes/assumptions/32.md). -/
def lookupSym (t : Table) (w : Nat) : Option (Nat × List Field) :=
  match (t.entries[w % 2 ^ t.rootBits]? : Option Entry) with
  | some (.terminal bits sym) => some (sym, [⟨t.rootBits, bits⟩])
  | some (.redirect subBits base) =>
    match (t.entries[base + w / 2 ^ t.rootBits % 2 ^ subBits]? : Option Entry) with
    | some (.terminal bits sym) => some (sym, [⟨t.rootBits + subBits, t.rootBits + bits⟩])
    | _ => none
  | none => none

/-- The bits consumed by a list of reads. -/
def fieldBits (fs : List Field) : Nat := (fs.map Field.drop).sum

/-- R166, R167 read backwards: a codeword of a symbol in a table, as its stream bits (first bit in bit 0) and its length. -/
def encodeSym (t : Table) (sym : Nat) : Option (Nat × Nat) :=
  (List.range (2 ^ t.rootBits)).findSome? fun k =>
    match (t.entries[k]? : Option Entry) with
    | some (.terminal bits s) => if s = sym then some (k % 2 ^ bits, bits) else none
    | some (.redirect subBits base) =>
      (List.range (2 ^ subBits)).findSome? fun j =>
        match (t.entries[base + j]? : Option Entry) with
        | some (.terminal bits s) =>
          if s = sym then some (k + 2 ^ t.rootBits * (j % 2 ^ bits), t.rootBits + bits) else none
        | _ => none
    | none => none

end Sys2Proof
end

