-- ==== Sys2Proof/Machine/State.lean ====
section
/-! DEFINITION. The state of the block as plain data (10_state.md R10 to R27), the reasons a step can stop, and the state
after reset (70_reset_and_hazards.md R320). INVENTORY.md lists every item with its rule and its reset value. -/

namespace Sys2Proof.Machine

/-- R12: the sequencer states. The reserved codes 20 to 31 have no constructor (R282). -/
inductive St where
  | idle
  | mbBegin
  | mbHeader
  | uncompressedCopy
  | hdrBlocks
  | hdrDistparams
  | hdrCtxmodes
  | hdrCmapL
  | hdrCmapD
  | hdrTrees
  | cmdBegin
  | cmdLiteral
  | cmdDistance
  | cmdCopyWindow
  | cmdCopyDict
  | cmdEnd
  | mbDone
  | flush
  | finished
  | error
  deriving DecidableEq, Repr

/-- R290: the fault kinds, the values of `ERR.KIND`. -/
inductive ErrKind where
  /-- 0 -/
  | none
  /-- 1 -/
  | malformedHuffman
  /-- 2 -/
  | truncatedInput
  /-- 3 -/
  | invalidBackwardReference
  /-- 4 -/
  | invalidDictionaryReference
  /-- 5 -/
  | sinkRejectedOutput
  /-- 6 -/
  | sourceFailed
  /-- 7 -/
  | sizeUnknown
  deriving DecidableEq, Repr

/-- R92: the stream element that a visit expects next. Its format follows from the state (Machine/Operands.lean). -/
inductive Elem where
  | islast
  | isempty
  | mnibbles
  | mlenNibble
  | isuncompressed
  | pad
  | rawbyte
  | varlen8
  | nbltypes
  | blenFirst
  | npostfix
  | ndirectHi
  | cmode
  | ntrees
  | rleflag
  | rlemax
  | cmsym
  | cmrun
  | imtf
  | hskip
  | nsym
  | simpleSym
  | treeSelect
  | clcl
  | clsym
  | clrep16
  | clrep17
  | btsym
  | blen
  | cmdsym
  | ins
  | cpy
  | literal
  | distsym
  | distExtra
  deriving DecidableEq, Repr

/-- The statements of a visit's pseudocode that read no stream bits and are no unit operation. -/
inductive Act where
  /-- R243: `goto HDR_DISTPARAMS` -/
  | toDistparams
  /-- R244: `goto HDR_CTXMODES` -/
  | toCtxmodes
  /-- R245: `goto HDR_CMAP_L` -/
  | toCmapL
  /-- R255: `goto CMD_BEGIN` -/
  | toCmdBegin
  /-- R278: `goto FINISHED` -/
  | toFinished
  /-- R238, R280: the end of the length nibbles -/
  | endLen
  /-- R280: the loop over the stored bytes of a size query -/
  | skipStored
  /-- R241: after the put of a raw byte -/
  | rawDone
  /-- R243: the body of the loop over the categories -/
  | beginCat (c : Cat)
  /-- R15: name the table just built -/
  | store (t : TableRef)
  /-- R170: the checks of a simple code and the lengths that need no further bit -/
  | simpleCheck
  /-- R171: the loop test of phase 1 -/
  | clclLoop
  /-- R174: the start of phase 2 -/
  | clsymStart
  /-- R175, R176: the loop test of phase 2 and its end -/
  | clsymLoop
  /-- R185: the loop test over the entries of a map -/
  | cmLoop
  /-- R190, R253: store the literal map -/
  | cmEndL
  /-- R190, R254: store the distance map -/
  | cmEndD
  /-- R251: `tick(c)` -/
  | tick (c : Cat)
  /-- R251: the decrement of `tick(c)` after a switch -/
  | tickDown (c : Cat)
  /-- R257: the end of a command's header -/
  | cmdHeaderEnd
  /-- R260: after the put of a literal -/
  | litDone
  /-- R264, R266: resolve `CMD.DCODE` -/
  | resolve
  /-- R264, R267: window or dictionary -/
  | classify
  /-- R270: after the put of a copied byte -/
  | copyDone
  /-- R273: the check of a dictionary word -/
  | dictCheck
  /-- R274: after the put of a byte of a dictionary word -/
  | dictDone
  deriving DecidableEq, Repr

/-- R284: one pending item of a visit, in the order of its pseudocode. -/
inductive Todo where
  /-- read this element of the stream -/
  | elem (k : Elem)
  /-- perform this unit operation -/
  | op (i : Instr)
  /-- perform this statement -/
  | act (m : Act)
  deriving DecidableEq, Repr

/-- R284: the intermediate values of a visit's pseudocode that are no register of 10_state.md. -/
structure Visit where
  /-- loop counter of the length nibbles (R238) -/
  nibI     : Nat
  /-- `len` (R238) -/
  lenAcc   : Nat
  /-- loop counter of the context modes (R245) -/
  ctxI     : Nat
  /-- `c`, the category at work (R243, R251) -/
  cat      : Cat
  /-- `insert_code` (R257) -/
  insCode  : Nat
  /-- `copy_code` (R257) -/
  cpyCode  : Nat
  /-- `implicit` (R257) -/
  implicit : Bool
  /-- `c`, the long distance symbol (R265) -/
  dsym     : Nat
  /-- `last` of a size query (R280) -/
  qLast    : Bool
  /-- `size` of a size query (R280) -/
  qSize    : Nat
  /-- whether a size query is past the stored bytes (R280) -/
  qTail    : Bool
  /-- stored bytes a size query has still to skip (R280) -/
  qCnt     : Nat
  deriving DecidableEq, Repr

/-- R13, R14: the bit reader. -/
structure BitReader where
  /-- `BR.IN` -/
  input   : List Byte
  /-- `BR.CUR` -/
  cur     : Nat
  /-- `BR.EOS` -/
  eos     : Bool
  /-- `BR.SRCERR` -/
  srcErr  : Bool
  /-- `BR.VAL` -/
  val     : BitVec 32
  /-- `BR.BITPOS` -/
  bitpos  : Nat
  /-- `BR.BYTEPOS`; 0 until a byte is shifted in -/
  bytepos : Nat
  /-- `BR.NVALID` -/
  nvalid  : Nat
  deriving DecidableEq, Repr

/-- R18: block-type state of one category. -/
structure Blk where
  /-- `NBT` -/
  nbt   : Nat
  /-- `BT_CUR` -/
  cur   : Nat
  /-- `BT_PREV2` -/
  prev2 : Nat
  /-- `BLEN` -/
  blen  : Nat
  deriving DecidableEq, Repr

/-- R19: the distance ring. -/
structure DistRing where
  /-- `DR[0]` -/
  d0  : Nat
  /-- `DR[1]` -/
  d1  : Nat
  /-- `DR[2]` -/
  d2  : Nat
  /-- `DR[3]` -/
  d3  : Nat
  /-- `DR.IDX`, two bits -/
  idx : BitVec 2
  deriving DecidableEq, Repr

/-- R66: the cells of `RB.MEM`, addresses strictly rising, in canonical form (`Mem.wf`): no entry equals what an unlisted cell
reads as (`memUnlisted`). -/
abbrev Mem := List Host.Cell

/-- R20, R24: the window. -/
structure Ring where
  /-- `RB.MEM` -/
  mem     : Mem
  /-- `RB.POS` -/
  pos     : Nat
  /-- `RB.P1` -/
  p1      : Byte
  /-- `RB.P2` -/
  p2      : Byte
  /-- `WINDOW_BITS`, latched by `START` -/
  winBits : Nat
  deriving DecidableEq, Repr

/-- R17, R21: the meta-block registers. -/
structure MetaBlock where
  /-- `MB.LAST` -/
  last      : Bool
  /-- `MB.UNCOMP` -/
  uncomp    : Bool
  /-- `MB.REM` -/
  rem       : Nat
  /-- `NPOSTFIX` -/
  npostfix  : Nat
  /-- `NUMDIRECT` -/
  numdirect : Nat
  /-- `NDIST` -/
  ndist     : Nat
  /-- `CMODE` -/
  cmode     : List Nat
  /-- `NTREES_L` -/
  ntreesL   : Nat
  /-- `NTREES_D` -/
  ntreesD   : Nat
  deriving DecidableEq, Repr

/-- R22: the command registers. -/
structure Command where
  /-- `CMD.INS` -/
  ins    : Nat
  /-- `CMD.CPY` -/
  cpy    : Nat
  /-- `CMD.CPYREM` -/
  cpyrem : Nat
  /-- `CMD.DCODE`; -1 is "to be read" -/
  dcode  : Int
  /-- `CMD.DIST` -/
  dist   : Nat
  /-- `CMD.MAXD` -/
  maxd   : Nat
  deriving DecidableEq, Repr

/-- R22: the result of a dictionary lookup. -/
structure DictOut where
  /-- `SD.OUT` -/
  out    : List Byte
  /-- `SD.OUTLEN` -/
  outlen : Nat
  /-- `SD.OUTIDX` -/
  outidx : Nat
  deriving DecidableEq, Repr

/-- R25: `ERR.KIND` and `ERR.SUB`. -/
structure ErrReg where
  kind : ErrKind
  sub  : Nat
  deriving DecidableEq, Repr

/-- R302: the boundary to the sink. -/
structure Sink where
  /-- the chunk of a `SNK.PUSH` not yet answered -/
  offer : Option (List Byte)
  /-- the chunks the sink has accepted, in order (R62, R75) -/
  out   : List (List Byte)
  deriving DecidableEq, Repr

/-- R345: an action of the host. -/
inductive HostAct where
  /-- write `CFG.WBITS` -/
  | setWbits (v : BitVec 5)
  /-- write `CTRL` -/
  | ctrl (v : Nat)
  /-- reset the block (R321) -/
  | reset
  deriving DecidableEq, Repr

/-- R300: an answer of the source. -/
inductive SrcAns where
  | bytes (s : List Byte)
  | notYet
  | eoi
  | error
  deriving DecidableEq, Repr

/-- R302: an answer of the sink. -/
inductive SnkAns where
  | accept
  | busy
  | short (k : Nat)
  | fail
  deriving DecidableEq, Repr

/-- R2, R5: who takes a step. -/
inductive Agent where
  | dec
  | src
  | snk
  | host
  deriving DecidableEq, Repr

/-- R11, R305: the outside world: what each agent will do, and whose turn it is (notes/assumptions/2.md). -/
structure Env where
  host  : List HostAct
  src   : List SrcAns
  snk   : List SnkAns
  turns : List Agent
  deriving DecidableEq, Repr

/-- R113: the value and the byte string returned by the last unit operation that returns one. -/
structure OpResult where
  val   : Nat
  bytes : List Byte
  deriving DecidableEq, Repr

/-- R10: the state of the block and of its boundary. -/
structure State where
  /-- parameters of R6 that a run can observe; no step writes them -/
  par   : Config.Params
  /-- `CD.ST` -/
  st    : St
  /-- `CD.Q` -/
  q     : Bool
  /-- `CD.QSIZE` -/
  qsize : Nat
  /-- position inside the visit: what is left of its pseudocode (R284) -/
  todo  : List Todo
  visit : Visit
  br    : BitReader
  /-- `HTRAM` (R15) -/
  ht    : TableRam
  /-- scratch of code reading (R16) -/
  hd    : CodeRegs
  /-- `CMRAM` (R17) -/
  cm    : MapRam
  blk   : PerCat Blk
  dr    : DistRing
  rb    : Ring
  mb    : MetaBlock
  cmd   : Command
  sd    : DictOut
  err   : ErrReg
  /-- `CFG.WBITS` -/
  wbits : BitVec 5
  snk   : Sink
  env   : Env
  res   : OpResult
  /-- how many free values have been drawn; the model's own (notes/assumptions/6.md) -/
  free  : Nat
  deriving DecidableEq, Repr

/-- Why a step stops with a fault of the model. The fault kinds of the spec (R290) are none of these: they are next states
with `CD.ST = ERROR`. -/
inductive Fault where
  /-- Raised by a lookup in a table, or through a context map, that is not valid, or whose entry names no instruction. The
  spec says it does not occur in any run of the sequencer (R15, R78). Safe: the model stops. -/
  | invalidTable
  /-- Raised by an access outside a memory space (R70), or by an operand outside the range the operation's rule gives
  (R197, R200, R222). The spec says it is never issued. Safe: the model stops. -/
  | outsideSpace
  deriving DecidableEq, Repr

/-- Why a step is refused. -/
inductive Refusal where
  /-- Raised by an arm of `exec` whose instruction has no meaning yet. Safe: the model stops. -/
  | notModelled (mnemonic : String)
  deriving DecidableEq, Repr

/-- The outcome of a meaning. -/
abbrev Result := Host.Outcome State Fault Refusal

/-- R320: the visit registers at reset (DESIGN CHOICE zero, notes/assumptions/3.md). -/
def Visit.reset : Visit :=
  { nibI := 0, lenAcc := 0, ctxI := 0, cat := .lit, insCode := 0, cpyCode := 0, implicit := false, dsym := 0,
    qLast := false, qSize := 0, qTail := false, qCnt := 0 }

/-- R320: the bit reader at reset. `BR.VAL`, `BR.BITPOS` and `BR.NVALID` are unspecified: the register is empty, so `BR.BITPOS` is
`REG_W` and the relation of R14 holds (DESIGN CHOICE, notes/assumptions/13.md). -/
def BitReader.reset : BitReader :=
  { input := [], cur := 0, eos := false, srcErr := false, val := 0, bitpos := Config.regW, bytepos := 0, nvalid := 0 }

/-- R320: the scratch at reset (DESIGN CHOICE zero, notes/assumptions/3.md). -/
def codeRegsReset : CodeRegs :=
  { a := 0, len := List.replicate 704 0, clcl := List.replicate 18 0, syms := [], i := 0, ncodes := 0, space := 0,
    symbol := 0, prevLen := 0, rep := 0, repLen := 0 }

/-- R320: the context maps at reset (no entry valid). -/
def mapRamReset : MapRam := { mapL := [], mapD := [], n := 0, num := 0, mrlp := 0, i := 0, k := 0, m := [] }

/-- R18, R320: block-type state of one category at reset and at `MB_BEGIN`. -/
def Blk.reset : Blk := { nbt := 1, cur := 0, prev2 := 1, blen := 0 }

/-- R18, R320: block-type state of every category at reset and at `MB_BEGIN`. -/
def blkReset : PerCat Blk := ⟨Blk.reset, Blk.reset, Blk.reset⟩

/-- R19, R320: the distance ring at reset. -/
def DistRing.reset : DistRing := { d0 := 16, d1 := 15, d2 := 11, d3 := 4, idx := 0 }

/-- R20, R320: the window at reset. -/
def Ring.reset : Ring := { mem := [], pos := 0, p1 := 0, p2 := 0, winBits := 0 }

/-- R17, R21, R320: the meta-block registers at reset. -/
def MetaBlock.reset : MetaBlock :=
  { last := false, uncomp := false, rem := 0, npostfix := 0, numdirect := 16, ndist := 64,
    cmode := List.replicate 256 0, ntreesL := 1, ntreesD := 1 }

/-- R22, R320: the command registers at reset. -/
def Command.reset : Command := { ins := 0, cpy := 0, cpyrem := 0, dcode := 0, dist := 0, maxd := 0 }

/-- R22, R320: the dictionary result at reset. -/
def DictOut.reset : DictOut := { out := [], outlen := 0, outidx := 0 }

/-- R320: the machine right after reset. -/
def State.reset : State :=
  { par := Config.Params.default
    st := .idle
    q := false
    qsize := 0
    todo := []
    visit := Visit.reset
    br := BitReader.reset
    ht := TableRam.none
    hd := codeRegsReset
    cm := mapRamReset
    blk := blkReset
    dr := DistRing.reset
    rb := Ring.reset
    mb := MetaBlock.reset
    cmd := Command.reset
    sd := DictOut.reset
    err := { kind := .none, sub := 0 }
    wbits := 0
    snk := { offer := none, out := [] }
    env := { host := [], src := [], snk := [], turns := [] }
    res := { val := 0, bytes := [] }
    free := 0 }

end Sys2Proof.Machine
end

