-- ==== Sys2Proof/Machine/Ops.lean ====
section
/-! DEFINITION. The shared operations over the state: position inside a visit, fault entry (60_exceptions.md R306), session
reset (70_reset_and_hazards.md R320), the cells of `RB.MEM` (20_memory.md R66), the bit reader (40_bitstream_reader.md),
the window (44_ring_buffer_window.md), tables and block-type state. -/

namespace Sys2Proof.Machine

/-! ## Position inside a visit (R284) -/

/-- The items `l` come next, before what is left of the visit. -/
def State.push (l : List Todo) (s : State) : State := { s with todo := l ++ s.todo }

/-- R235: `goto S`: `CD.ST <- S` and the end of the visit. -/
def State.goto (t : St) (s : State) : State := { s with st := t, todo := [] }

/-- R131, R284: the operation `i` is held; the visit goes on from it. -/
def State.hold (i : Instr) (s : State) : State := s.push [.op i]

/-! ## Fault entry (R306) -/

/-- R306, R150, R15: `HTRAM` after a fault: the contents of every valid table are free, and no table becomes valid or ceases to
be (`n` numbers the free values). -/
def tablesAfterFault (n : Nat) (h : TableRam) : TableRam :=
  let put (o : Option Table) (r : Option TableRef) : Option Table := o.map fun _ => Config.freeTable n r
  let group (l : List Table) (r : Nat → TableRef) : List Table := l.mapIdx fun i _ => Config.freeTable n (some (r i))
  { bt := ⟨put h.bt.lit (some (.bt .lit)), put h.bt.cmd (some (.bt .cmd)), put h.bt.dist (some (.bt .dist))⟩
    bl := ⟨put h.bl.lit (some (.bl .lit)), put h.bl.cmd (some (.bl .cmd)), put h.bl.dist (some (.bl .dist))⟩
    cm := put h.cm (some .cm)
    clc := put h.clc (some .clc)
    tgL := group h.tgL .tgL
    tgI := group h.tgI .tgI
    tgD := group h.tgD .tgD
    out := put h.out none }

/-- R306: the scratch of code reading after a fault: every content is free. -/
def scratchAfterFault (n : Nat) (d : CodeRegs) : CodeRegs :=
  { Config.freeCodeRegs n with
    len := d.len.mapIdx fun k _ => (Config.freeLen n k).toNat
    clcl := d.clcl.mapIdx fun k _ => (Config.freeClcl n k).toNat }

/-- R306, R190: `CMRAM` after a fault: every entry of a map is free, and no map becomes valid or ceases to be. -/
def mapsAfterFault (n : Nat) (m : MapRam) : MapRam :=
  { Config.freeMapRegs n with
    mapL := m.mapL.mapIdx fun k _ => Config.freeMapEntry n true k
    mapD := m.mapD.mapIdx fun k _ => Config.freeMapEntry n false k }

/-- R306: `raise Kind(sub)`. `ERR.*` and `CD.ST` are written, the session has no further step, a chunk on offer is no longer
offered (R205), and what R306 calls unspecified is free from now on; every register keeps its value, and every table its
validity (R150). -/
def State.raise (k : ErrKind) (sub : Nat) (s : State) : State :=
  { s with
    st := .error
    todo := []
    err := { kind := k, sub := sub }
    snk := { s.snk with offer := none }
    ht := tablesAfterFault s.free s.ht
    hd := scratchAfterFault s.free s.hd
    cm := mapsAfterFault s.free s.cm
    sd := { s.sd with out := Config.freeBytes s.free }
    free := s.free + 1 }

/-! ## Reset values (R320) -/

/-- R320, R235, R236: every item of 10_state.md at its reset value, except `CFG.WBITS` and the contents of `RB.MEM`, which are
not cleared (R235; notes/assumptions/17.md). Parameters, the outside world and what the sink has accepted stay. -/
def State.sessionReset (s : State) : State :=
  { State.reset with
    par := s.par
    rb := { Ring.reset with mem := s.rb.mem }
    wbits := s.wbits
    snk := { offer := none, out := s.snk.out }
    env := s.env
    free := s.free }

/-! ## Cells of `RB.MEM` (R66) -/

/-- What an unlisted cell reads as (R20 gives no contents after reset; DESIGN CHOICE, notes/assumptions/5.md). -/
def memUnlisted : Byte := 0

/-- R70: `MemRead`, total: the value of a cell. -/
def memRead : Mem → Nat → Byte
  | [], _ => memUnlisted
  | (a, v) :: rest, b => if a = b then v else if b < a then memUnlisted else memRead rest b

/-- List a cell in front, unless its value is what an unlisted cell reads as. -/
def memCons (b : Nat) (v : Byte) (m : Mem) : Mem := if v = memUnlisted then m else (b, v) :: m

/-- R70: `MemWrite`, total: set a cell, keeping the canonical form. -/
def memWrite : Mem → Nat → Byte → Mem
  | [], b, v => memCons b v []
  | (a, w) :: rest, b, v =>
    if b < a then memCons b v ((a, w) :: rest)
    else if a = b then memCons b v rest
    else (a, w) :: memWrite rest b v

/-- Every address of the cells is above `b`. -/
def Mem.above (b : Nat) : Mem → Bool
  | [] => true
  | (a, _) :: _ => decide (b < a)

/-- The canonical form: addresses strictly rising, and no entry equal to what an unlisted cell reads as. -/
def Mem.wf : Mem → Bool
  | [] => true
  | (a, v) :: rest => decide (v ≠ memUnlisted) && Mem.above a rest && Mem.wf rest

/-- The values of the cells `lo .. lo + n - 1`. -/
def memRange (m : Mem) : Nat → Nat → List Byte
  | _, 0 => []
  | lo, n + 1 => memRead m lo :: memRange m (lo + 1) n

/-! ## The bit reader (R130 to R140) -/

/-- The number of bits delivered, `8*|BR.IN|`. -/
def BitReader.avail (b : BitReader) : Nat := 8 * b.input.length

/-- R14: `BR.NVALID = max(0, min(8*|BR.IN|, 8*BR.BYTEPOS) - BR.CUR)`. -/
def BitReader.countValid (b : BitReader) : Nat := min b.avail (8 * b.bytepos) - b.cur

/-- R132: whether the next byte to shift in is there, or is a byte of padding. -/
def BitReader.byteReady (b : BitReader) : Bool := decide (b.bytepos < b.input.length) || b.eos

/-- R132: one turn of the loop of `BR.FILL`: shift one byte in at the top. -/
def BitReader.shiftIn (b : BitReader) : BitReader :=
  { b with
    val := (b.val >>> 8) ||| ((streamByte b.input b.bytepos).setWidth 32 <<< 24)
    bytepos := b.bytepos + 1
    bitpos := b.bitpos - 8 }

/-- R132: the loop of `BR.FILL`, as far as the bytes go. -/
def BitReader.shiftLoop : Nat → BitReader → BitReader
  | 0, b => b
  | fuel + 1, b => if 8 ≤ b.bitpos ∧ b.byteReady = true then shiftLoop fuel b.shiftIn else b

/-- R14: `byte(p - 4 + k)` of a register whose next byte is `p`; zero where that place lies before the first byte of the stream,
which is so until four bytes have been shifted in (notes/assumptions/13.md). -/
def regByte (input : List Byte) (p k : Nat) : Byte := if p + k < 4 then 0 else streamByte input (p + k - 4)

/-- R14: `BR.VAL` of a register whose next byte is `p`: `byte(p-4) .. byte(p-1)`, the first in the low byte. -/
def regWord (input : List Byte) (p : Nat) : BitVec 32 :=
  regByte input p 3 ++ regByte input p 2 ++ regByte input p 1 ++ regByte input p 0

/-- R132: the first fill of a session: load `REG_W/8` bytes, `BR.BYTEPOS <- REG_W/8`, `BR.BITPOS <- 0`. It comes where no byte has
been shifted in yet and four are there; the cursor is then 0 (R14). -/
def BitReader.firstFill (b : BitReader) : BitReader :=
  if b.bytepos = 0 ∧ b.bitpos = Config.regW ∧ (4 ≤ b.input.length ∨ b.eos = true) then
    { b with
      val := regWord b.input 4
      bytepos := 4
      bitpos := 0 }
  else b

/-- R132: what `BR.FILL` can do with the bytes that are there: the first fill, or with fewer than four bytes those that are there
(notes/assumptions/13.md), and the loop. `BR.IN`, `BR.CUR`, `BR.EOS` and `BR.SRCERR` stay. -/
def BitReader.fill (b : BitReader) : BitReader :=
  let g := BitReader.shiftLoop (b.firstFill.bitpos / 8) b.firstFill
  { g with nvalid := g.countValid }

/-- R132: the register holds at least `REG_W - 7` unconsumed bits. -/
def BitReader.filled (b : BitReader) : Bool := decide (b.bitpos < 8)

/-- What `need(n)` answers (R131). -/
inductive Need where
  | ready
  | hold
  | failed
  deriving DecidableEq, Repr

/-- R131: whether DEC may wait for its whole prefetch window, the permitted and not required hold. -/
def BitReader.windowShort (p : Config.Params) (b : BitReader) : Bool :=
  p.prefetchHold && !b.eos && !b.srcErr && decide (b.avail < b.cur + Config.regW)

/-- R131: `need(n)`; `n = 0` neither holds nor fails (R135). -/
def BitReader.need (p : Config.Params) (b : BitReader) (n : Nat) : Need :=
  if n = 0 then .ready
  else if b.cur + n ≤ b.avail then (if b.windowShort p = true then .hold else .ready)
  else if b.srcErr = true then .failed
  else if b.eos = true then .ready
  else .hold

/-- R134: the next `n` stream bits, first bit in bit 0, zeros past the end of input. -/
def BitReader.peek (b : BitReader) (n : Nat) : Nat := streamWindow b.input b.cur n

/-- R135: `BR.CUR <- BR.CUR + n`, with the register form of R14 following. -/
def BitReader.advance (b : BitReader) (n : Nat) : BitReader :=
  let c := { b with cur := b.cur + n, bitpos := b.bitpos + n }
  { c with nvalid := c.countValid }

/-- What a read of the stream answers. -/
inductive Taken where
  /-- the bits are consumed -/
  | ok (b : BitReader)
  /-- held on input -/
  | hold
  /-- `raise`, with the cursor at the first bit not consumed (R307) -/
  | fail (k : ErrKind) (b : BitReader)
  deriving DecidableEq, Repr

/-- R131, R135: wait for `need` bits, then consume `drop` of them. Where none is to be consumed there is no fault: `BR.DROP(0)`
never faults (R135), and the read of a single-symbol table cannot (R166; notes/assumptions/29.md). -/
def BitReader.take (p : Config.Params) (b : BitReader) (f : Field) : Taken :=
  match b.need p f.need with
  | .hold => .hold
  | .failed => if f.drop = 0 then .ok (b.advance 0) else .fail .sourceFailed b
  | .ready => if f.drop ≠ 0 ∧ b.avail < b.cur + f.drop then .fail .truncatedInput b else .ok (b.advance f.drop)

/-- R132, R166: the reads of one element in order, the register filled before each. A hold at any of them holds the whole
element (R284); a fault leaves the reads before it done and the cursor at the first bit of the field that could not be completed
(R307). A codeword of either level is one such field (`lookupSym`; notes/assumptions/32.md). -/
def BitReader.takeAll (p : Config.Params) : BitReader → List Field → Taken
  | b, [] => .ok b
  | b, f :: fs =>
    match b.fill.take p f with
    | .ok c => takeAll p c fs
    | .hold => .hold
    | .fail k c => .fail k c

/-! ## The window (R195 to R206) -/

/-- `SIZE`, `2^WINDOW_BITS`. -/
def Ring.size (r : Ring) : Nat := 2 ^ r.winBits

/-- R196: `max_backward = SIZE - WINDOW_GAP`. -/
def State.maxBackward (s : State) : Nat := s.rb.size - s.par.windowGap

/-- R196: `max_distance = min(RB.POS, max_backward)`. -/
def State.maxDistance (s : State) : Nat := min s.rb.pos s.maxBackward

/-- R199: the effect of `RB.PUT(b)` on the window, without the flush. -/
def Ring.put (r : Ring) (b : Byte) : Ring :=
  { r with mem := memWrite r.mem (r.pos % r.size) b, p2 := r.p1, p1 := b, pos := r.pos + 1 }

/-- R199: the flush that a put issues when it has written the last cell of the ring. -/
def Ring.wrapFlush (r : Ring) : List Todo := if r.pos % r.size = 0 then [.op .rbFlush] else []

/-- R199: `RB.PUT(b)`. The items `after` are what the pseudocode does after the put has ended, its flush included. -/
def State.rbPut (b : Byte) (after : List Todo) (s : State) : State :=
  State.push ((s.rb.put b).wrapFlush ++ after) { s with rb := s.rb.put b }

/-- What a read of the window answers. -/
inductive Got where
  | byte (b : Byte)
  | stop (f : Fault)
  deriving DecidableEq, Repr

/-- R200, R197: `RB.GET(d)`, `1 ≤ d ≤ max_distance`. -/
def State.rbGet (d : Nat) (s : State) : Got :=
  if 1 ≤ d ∧ d ≤ s.maxDistance then
    .byte (memRead s.rb.mem ((s.rb.pos - d) % s.rb.size))
  else .stop .outsideSpace

/-- R203, R204: how many cells a flush pushes: the residue in state `FLUSH`, the whole ring at a wrap. -/
def State.flushLen (s : State) : Nat := if s.st = .flush then s.rb.pos % s.rb.size else s.rb.size

/-- R203, R204, R302: `SNK.PUSH` of the first cells of the ring; nothing where there is none to push. -/
def State.rbFlush (s : State) : State :=
  if s.flushLen = 0 then s else { s with snk := { s.snk with offer := some (memRange s.rb.mem 0 s.flushLen) } }

/-! ## Tables (R15) -/

/-- Put a table at place `i` of a group, whose tables are built in ascending order. -/
def storeAt (l : List Table) (i : Nat) (t : Table) : List Table := if i < l.length then l.set i t else l ++ [t]

/-- R15: the table of a name; none where it is not valid. -/
def lookupTable (h : TableRam) : TableRef → Option Table
  | .bt c => h.bt.get c
  | .bl c => h.bl.get c
  | .cm => h.cm
  | .clc => h.clc
  | .tgL i => h.tgL[i]?
  | .tgI i => h.tgI[i]?
  | .tgD i => h.tgD[i]?

/-- R15: a table becomes the valid table of a name. -/
def storeTable (h : TableRam) (r : TableRef) (t : Table) : TableRam :=
  match r with
  | .bt c => { h with bt := h.bt.set c (some t) }
  | .bl c => { h with bl := h.bl.set c (some t) }
  | .cm => { h with cm := some t }
  | .clc => { h with clc := some t }
  | .tgL i => { h with tgL := storeAt h.tgL i t }
  | .tgI i => { h with tgI := storeAt h.tgI i t }
  | .tgD i => { h with tgD := storeAt h.tgD i t }

/-! ## Block-type state (R18) -/

/-- Change the block-type state of one category. -/
def State.setBlk (c : Cat) (b : Blk) (s : State) : State := { s with blk := s.blk.set c b }

/-- R243, R252: `BLEN[c] <- n` for the category at work. -/
def State.setBlockLength (n : Nat) (s : State) : State :=
  s.setBlk s.visit.cat { s.blk.get s.visit.cat with blen := n }

/-- R252: the wrap of a new block type. -/
def wrapType (nbt t : Nat) : Nat := if nbt ≤ t then t - nbt else t

/-- R252: the block type `t` becomes current for the category at work. -/
def State.switchTo (t : Nat) (s : State) : State :=
  let b := s.blk.get s.visit.cat
  s.setBlk s.visit.cat { b with prev2 := b.cur, cur := wrapType b.nbt t }

/-! ## The distance ring (R19) -/

/-- R19: the slot `i mod 4`. -/
def DistRing.get (r : DistRing) (i : BitVec 2) : Nat :=
  if i = 0 then r.d0 else if i = 1 then r.d1 else if i = 2 then r.d2 else r.d3

/-- R269: `DR[DR.IDX mod 4] <- d ; DR.IDX <- DR.IDX + 1`. -/
def DistRing.push (r : DistRing) (d : Nat) : DistRing :=
  let n := r.idx + 1
  if r.idx = 0 then { r with d0 := d, idx := n }
  else if r.idx = 1 then { r with d1 := d, idx := n }
  else if r.idx = 2 then { r with d2 := d, idx := n }
  else { r with d3 := d, idx := n }

/-- R266: the value a short code names, `DR[(DR.IDX + DSC_IDX[c]) mod 4] + DSC_VAL[c]`. -/
def DistRing.short (r : DistRing) (c : Nat) : Int := (r.get (r.idx + BitVec.ofNat 2 (dscIdx c)) : Int) + dscVal c

/-- R266: `CMD.DIST <- resolve(CMD.DCODE)` for the distance code `c`, which becomes `CMD.DCODE`. -/
def State.resolveCode (c : Nat) (s : State) : State :=
  let t := { s with cmd := { s.cmd with dcode := c } }
  if c < 16 then
    let d := s.dr.short c
    if d ≤ 0 then t.raise .invalidBackwardReference 1
    else { t with cmd := { t.cmd with dist := d.toNat } }
  else { t with cmd := { t.cmd with dist := c - 15 } }

/-! ## Code-reading scratch (R16) -/

/-- R168: `HD.LEN[0 .. a-1] <- 0`. -/
def zeroLens (lens : List Nat) (a : Nat) : List Nat := lens.mapIdx fun k v => if k < a then 0 else v

/-- R175: `HD.LEN[lo .. lo+n-1] <- v`. -/
def fillLens (lens : List Nat) (lo n v : Nat) : List Nat :=
  lens.mapIdx fun k w => if lo ≤ k ∧ k < lo + n then v else w

/-- R169: `HD.LEN[s_i] <- l_i` for the symbols and lengths in order. -/
def assignLens (lens : List Nat) (syms ls : List Nat) : List Nat :=
  (syms.zip ls).foldl (fun acc p => acc.set p.1 p.2) lens

/-! ## Session control (R235, R236, R280) -/

/-- R24: no session runs. -/
def St.noSession : St → Bool
  | .idle | .finished | .error => true
  | _ => false

/-- R235: `START`. -/
def State.start (s : State) : State :=
  if s.st.noSession = true ∧ 10 ≤ s.wbits.toNat ∧ s.wbits.toNat ≤ 24 then
    let t := s.sessionReset
    { t with rb := { t.rb with winBits := s.wbits.toNat }, st := .mbBegin }
  else s

/-- R236: `ABORT`. -/
def State.abort (s : State) : State := s.sessionReset

/-- R280: `SIZEQ`. -/
def State.sizeq (s : State) : State :=
  if s.st.noSession = true then { s.sessionReset with q := true, st := .mbHeader } else s

/-- R280: `return v` of a size query. -/
def State.queryReturn (v : Nat) (s : State) : State := State.goto .finished { s with qsize := v }

end Sys2Proof.Machine
end

