-- ==== Sys2Proof/Machine/BlockSwitch.lean ====
section
/-! DEFINITION. Block switches (46_command_decoder.md R250 to R252, 30_encoding.md R110). -/

namespace Sys2Proof.Machine

/-- R251: `tick(c)`: with two types or more, a switch when the block is used up, then the decrement. -/
def State.tick (c : Cat) (s : State) : State :=
  let t := { s with visit := { s.visit with cat := c } }
  let b := s.blk.get c
  if b.nbt < 2 then t
  else if b.blen = 0 then t.push [.elem .btsym, .elem .blen, .act (.tickDown c)]
  else t.setBlk c { b with blen := b.blen - 1 }

/-- R251: the decrement of `tick(c)` after a switch. -/
def State.tickDown (c : Cat) (s : State) : State :=
  s.setBlk c { s.blk.get c with blen := (s.blk.get c).blen - 1 }

/-- R252: code 0, the block type before the current one. -/
def execBtsymPrev (s : State) : Result := .next (s.switchTo (s.blk.get s.visit.cat).prev2)

/-- R252: code 1, the next block type. -/
def execBtsymNext (s : State) : Result := .next (s.switchTo ((s.blk.get s.visit.cat).cur + 1))

/-- R252: code `k ≥ 2`, block type `k - 2`. -/
def execBtsymExplicit (k : Nat) (s : State) : Result := .next (s.switchTo (k - 2))

/-- R246, R250: block length code 0, offset 1. -/
def execBlen0 (x : Nat) (s : State) : Result := .next (s.setBlockLength (blenOff 0 + x))

/-- R246, R250: block length code 1, offset 5. -/
def execBlen1 (x : Nat) (s : State) : Result := .next (s.setBlockLength (blenOff 1 + x))

/-- R246, R250: block length code 2, offset 9. -/
def execBlen2 (x : Nat) (s : State) : Result := .next (s.setBlockLength (blenOff 2 + x))

/-- R246, R250: block length code 3, offset 13. -/
def execBlen3 (x : Nat) (s : State) : Result := .next (s.setBlockLength (blenOff 3 + x))

/-- R246, R250: block length code 4, offset 17. -/
def execBlen4 (x : Nat) (s : State) : Result := .next (s.setBlockLength (blenOff 4 + x))

/-- R246, R250: block length code 5, offset 25. -/
def execBlen5 (x : Nat) (s : State) : Result := .next (s.setBlockLength (blenOff 5 + x))

/-- R246, R250: block length code 6, offset 33. -/
def execBlen6 (x : Nat) (s : State) : Result := .next (s.setBlockLength (blenOff 6 + x))

/-- R246, R250: block length code 7, offset 41. -/
def execBlen7 (x : Nat) (s : State) : Result := .next (s.setBlockLength (blenOff 7 + x))

/-- R246, R250: block length code 8, offset 49. -/
def execBlen8 (x : Nat) (s : State) : Result := .next (s.setBlockLength (blenOff 8 + x))

/-- R246, R250: block length code 9, offset 65. -/
def execBlen9 (x : Nat) (s : State) : Result := .next (s.setBlockLength (blenOff 9 + x))

/-- R246, R250: block length code 10, offset 81. -/
def execBlen10 (x : Nat) (s : State) : Result := .next (s.setBlockLength (blenOff 10 + x))

/-- R246, R250: block length code 11, offset 97. -/
def execBlen11 (x : Nat) (s : State) : Result := .next (s.setBlockLength (blenOff 11 + x))

/-- R246, R250: block length code 12, offset 113. -/
def execBlen12 (x : Nat) (s : State) : Result := .next (s.setBlockLength (blenOff 12 + x))

/-- R246, R250: block length code 13, offset 145. -/
def execBlen13 (x : Nat) (s : State) : Result := .next (s.setBlockLength (blenOff 13 + x))

/-- R246, R250: block length code 14, offset 177. -/
def execBlen14 (x : Nat) (s : State) : Result := .next (s.setBlockLength (blenOff 14 + x))

/-- R246, R250: block length code 15, offset 209. -/
def execBlen15 (x : Nat) (s : State) : Result := .next (s.setBlockLength (blenOff 15 + x))

/-- R246, R250: block length code 16, offset 241. -/
def execBlen16 (x : Nat) (s : State) : Result := .next (s.setBlockLength (blenOff 16 + x))

/-- R246, R250: block length code 17, offset 305. -/
def execBlen17 (x : Nat) (s : State) : Result := .next (s.setBlockLength (blenOff 17 + x))

/-- R246, R250: block length code 18, offset 369. -/
def execBlen18 (x : Nat) (s : State) : Result := .next (s.setBlockLength (blenOff 18 + x))

/-- R246, R250: block length code 19, offset 497. -/
def execBlen19 (x : Nat) (s : State) : Result := .next (s.setBlockLength (blenOff 19 + x))

/-- R246, R250: block length code 20, offset 753. -/
def execBlen20 (x : Nat) (s : State) : Result := .next (s.setBlockLength (blenOff 20 + x))

/-- R246, R250: block length code 21, offset 1265. -/
def execBlen21 (x : Nat) (s : State) : Result := .next (s.setBlockLength (blenOff 21 + x))

/-- R246, R250: block length code 22, offset 2289. -/
def execBlen22 (x : Nat) (s : State) : Result := .next (s.setBlockLength (blenOff 22 + x))

/-- R246, R250: block length code 23, offset 4385. -/
def execBlen23 (x : Nat) (s : State) : Result := .next (s.setBlockLength (blenOff 23 + x))

/-- R246, R250: block length code 24, offset 8481. -/
def execBlen24 (x : Nat) (s : State) : Result := .next (s.setBlockLength (blenOff 24 + x))

/-- R246, R250: block length code 25, offset 16625. -/
def execBlen25 (x : Nat) (s : State) : Result := .next (s.setBlockLength (blenOff 25 + x))

end Sys2Proof.Machine
end

