-- ==== Sys2Proof/Machine/BodyHeader.lean ====
section
/-! DEFINITION. The compressed-body header elements (30_encoding.md R94, 46_command_decoder.md R243 to R245). -/

namespace Sys2Proof.Machine

/-- R243: what follows the block-type count of the category `c`. -/
def afterBlockCount (c : Cat) (nbt : Nat) : List Todo :=
  if 2 ≤ nbt then
    [.op (.hdReadcode (nbt + 2)), .act (.store (.bt c)), .op (.hdReadcode 26), .act (.store (.bl c)), .elem .blenFirst]
  else []

/-- R243: `NBT[c] <- v + 1`, and with two types or more the two codes and the first length. -/
def execNbltypes (v : Nat) (s : State) : Result :=
  .next (State.push (afterBlockCount s.visit.cat (v + 1))
    (s.setBlk s.visit.cat { s.blk.get s.visit.cat with nbt := v + 1 }))

/-- R243, R250: `BLEN[c] <- BLEN_OFF[code] + x`. -/
def execBlenFirst (code x : Nat) (s : State) : Result := .next (s.setBlockLength (blenOff code + x))

/-- R243: the body of the loop for the category `c`. -/
def State.beginCat (c : Cat) (s : State) : State :=
  State.push [.elem .nbltypes] { s with visit := { s.visit with cat := c } }

/-- R244: `NPOSTFIX <- p`. -/
def execNpostfix (p : Nat) (s : State) : Result := .next { s with mb := { s.mb with npostfix := p } }

/-- R244: `NUMDIRECT <- 16 + (d << NPOSTFIX) ; NDIST <- NUMDIRECT + (48 << NPOSTFIX)`. -/
def execNdirectHi (d : Nat) (s : State) : Result :=
  let nd := 16 + (d <<< s.mb.npostfix)
  .next { s with mb := { s.mb with numdirect := nd, ndist := nd + (48 <<< s.mb.npostfix) } }

/-- R245: `CMODE[i] <- m`. -/
def State.setMode (m : Nat) (s : State) : State :=
  { s with
    mb := { s.mb with cmode := s.mb.cmode.set s.visit.ctxI m }
    visit := { s.visit with ctxI := s.visit.ctxI + 1 } }

/-- R245, R262: mode 0. -/
def execCmodeLsb6 (s : State) : Result := .next (s.setMode 0)

/-- R245, R262: mode 1. -/
def execCmodeMsb6 (s : State) : Result := .next (s.setMode 1)

/-- R245, R262: mode 2. -/
def execCmodeUtf8 (s : State) : Result := .next (s.setMode 2)

/-- R245, R262: mode 3. -/
def execCmodeSigned (s : State) : Result := .next (s.setMode 3)

end Sys2Proof.Machine
end

