-- ==== Sys2Proof/Machine/CodeReader.lean ====
section
/-! DEFINITION. Reading a prefix-code description (42_huffman_code_reader.md R168 to R176). -/

namespace Sys2Proof.Machine

/-- R168: `HD.READCODE(a)`: the lengths are cleared, the selector read, and after the description the table built. -/
def execHdReadcode (a : Nat) (s : State) : Result :=
  .next (State.push [.elem .hskip, .op (.htBuild .len a Config.rootBits)]
    { s with hd := { s.hd with a := a, len := zeroLens s.hd.len a } })

/-- R168: selector 1, the simple form. -/
def execHskipSimple (s : State) : Result := .next (s.push [.op (.hdSimple s.hd.a)])

/-- R168: selector 0, the complicated form with no entry skipped. -/
def execHskipComplex0 (s : State) : Result := .next (s.push [.op (.hdComplex s.hd.a 0)])

/-- R168: selector 2, the complicated form with two entries skipped. -/
def execHskipComplex2 (s : State) : Result := .next (s.push [.op (.hdComplex s.hd.a 2)])

/-- R168: selector 3, the complicated form with three entries skipped. -/
def execHskipComplex3 (s : State) : Result := .next (s.push [.op (.hdComplex s.hd.a 3)])

/-! ## The simple form (R169, R170) -/

/-- R169: `HD.SIMPLE(a)`. -/
def execHdSimple (a : Nat) (s : State) : Result :=
  .next (State.push [.elem .nsym] { s with hd := { s.hd with a := a, syms := [] } })

/-- R169: `NSYM`: `n + 1` symbols are read, then checked. -/
def execNsym (n : Nat) (s : State) : Result :=
  .next (s.push (List.replicate (n + 1) (.elem .simpleSym) ++ [.act .simpleCheck]))

/-- R169: `SIMPLE_SYM`: the next `s[i]`. -/
def execSimpleSym (_w v : Nat) (s : State) : Result :=
  .next { s with hd := { s.hd with syms := s.hd.syms ++ [v] } }

/-- R170: some symbol is repeated. -/
def hasRepeat : List Nat → Bool
  | [] => false
  | v :: rest => rest.contains v || hasRepeat rest

/-- R169: `HD.LEN[s_i] <- l_i`. -/
def State.setSimpleLens (ls : List Nat) (s : State) : State :=
  { s with hd := { s.hd with len := assignLens s.hd.len s.hd.syms ls } }

/-- R169: the lengths of one, two and three symbols. -/
def simpleLens (n : Nat) : List Nat :=
  match n with
  | 1 => [1]
  | 2 => [1, 1]
  | 3 => [1, 2, 2]
  | _ => []

/-- R169: the lengths of four symbols by `TREE_SELECT`. -/
def simpleLens4 (t : Bool) : List Nat := if t = true then [1, 2, 3, 3] else [2, 2, 2, 2]

/-- R169, R170: the checks, range before repetition, then the lengths or the tie-break bit. -/
def State.simpleCheck (s : State) : State :=
  if s.hd.syms.any (fun v => decide (s.hd.a ≤ v)) = true then s.raise .malformedHuffman 3
  else if hasRepeat s.hd.syms = true then s.raise .malformedHuffman 4
  else if s.hd.syms.length = 4 then s.push [.elem .treeSelect]
  else s.setSimpleLens (simpleLens s.hd.syms.length)

/-- R169: `TREE_SELECT`. -/
def execTreeSelect (t : Bool) (s : State) : Result := .next (s.setSimpleLens (simpleLens4 t))

/-! ## The complicated form, phase 1 (R171 to R173) -/

/-- R171: `HD.COMPLEX(a, skip)`, phase 1. -/
def execHdComplex (a skip : Nat) (s : State) : Result :=
  .next (State.push [.act .clclLoop]
    { s with hd := { s.hd with a := a, clcl := List.replicate 18 0, space := 32, ncodes := 0, i := skip } })

/-- R171, R173: the loop test; at its end the code-length code must be complete, or have one length. -/
def State.clclLoop (s : State) : State :=
  if s.hd.i < 18 ∧ 0 < s.hd.space then s.push [.elem .clcl, .act .clclLoop]
  else if s.hd.ncodes = 1 ∨ s.hd.space = 0 then
    s.push [.op (.htBuild .clcl 18 Config.clRootBits), .act (.store .clc), .act .clsymStart]
  else s.raise .malformedHuffman 5

/-- R171: `HD.CLCL[CL_ORDER[i]] <- v`, the space, the count, `i <- i + 1`. -/
def State.putClcl (v : Nat) (s : State) : State :=
  { s with
    hd := { s.hd with
      clcl := s.hd.clcl.set (clOrder s.hd.i) v
      space := if v = 0 then s.hd.space else s.hd.space - ((32 >>> v : Nat) : Int)
      ncodes := if v = 0 then s.hd.ncodes else s.hd.ncodes + 1
      i := s.hd.i + 1 } }

/-- R171, R172: code-length-code length 0. -/
def execClcl0 (s : State) : Result := .next (s.putClcl 0)

/-- R171, R172: code-length-code length 3. -/
def execClcl3 (s : State) : Result := .next (s.putClcl 3)

/-- R171, R172: code-length-code length 4. -/
def execClcl4 (s : State) : Result := .next (s.putClcl 4)

/-- R171, R172: code-length-code length 2. -/
def execClcl2 (s : State) : Result := .next (s.putClcl 2)

/-- R171, R172: code-length-code length 1. -/
def execClcl1 (s : State) : Result := .next (s.putClcl 1)

/-- R171, R172: code-length-code length 5. -/
def execClcl5 (s : State) : Result := .next (s.putClcl 5)

/-! ## The complicated form, phase 2 (R174 to R176) -/

/-- R174: the start of phase 2. -/
def State.clsymStart (s : State) : State :=
  State.push [.act .clsymLoop]
    { s with hd := { s.hd with symbol := 0, prevLen := 8, rep := 0, repLen := 0, space := 32768 } }

/-- R175, R176: the loop test; at its end the space must be used up. -/
def State.clsymLoop (s : State) : State :=
  if s.hd.symbol < s.hd.a ∧ 0 < s.hd.space then s.push [.elem .clsym, .act .clsymLoop]
  else if s.hd.space = 0 then s
  else s.raise .malformedHuffman 7

/-- R175: a code length `c` below 16. -/
def State.putLen (c : Nat) (s : State) : State :=
  { s with
    hd := { s.hd with
      rep := 0
      len := s.hd.len.set s.hd.symbol c
      symbol := s.hd.symbol + 1
      prevLen := if c = 0 then s.hd.prevLen else c
      space := if c = 0 then s.hd.space else s.hd.space - ((32768 >>> c : Nat) : Int) } }

/-- R175: code length 0. -/
def execClsymLen0 (s : State) : Result := .next (s.putLen 0)

/-- R175: code length 1. -/
def execClsymLen1 (s : State) : Result := .next (s.putLen 1)

/-- R175: code length 2. -/
def execClsymLen2 (s : State) : Result := .next (s.putLen 2)

/-- R175: code length 3. -/
def execClsymLen3 (s : State) : Result := .next (s.putLen 3)

/-- R175: code length 4. -/
def execClsymLen4 (s : State) : Result := .next (s.putLen 4)

/-- R175: code length 5. -/
def execClsymLen5 (s : State) : Result := .next (s.putLen 5)

/-- R175: code length 6. -/
def execClsymLen6 (s : State) : Result := .next (s.putLen 6)

/-- R175: code length 7. -/
def execClsymLen7 (s : State) : Result := .next (s.putLen 7)

/-- R175: code length 8. -/
def execClsymLen8 (s : State) : Result := .next (s.putLen 8)

/-- R175: code length 9. -/
def execClsymLen9 (s : State) : Result := .next (s.putLen 9)

/-- R175: code length 10. -/
def execClsymLen10 (s : State) : Result := .next (s.putLen 10)

/-- R175: code length 11. -/
def execClsymLen11 (s : State) : Result := .next (s.putLen 11)

/-- R175: code length 12. -/
def execClsymLen12 (s : State) : Result := .next (s.putLen 12)

/-- R175: code length 13. -/
def execClsymLen13 (s : State) : Result := .next (s.putLen 13)

/-- R175: code length 14. -/
def execClsymLen14 (s : State) : Result := .next (s.putLen 14)

/-- R175: code length 15. -/
def execClsymLen15 (s : State) : Result := .next (s.putLen 15)

/-- R175: a repeat symbol for `new_len`, whose extra bits follow: another length starts a new count. -/
def State.beginRepeat (newLen : Nat) (k : Elem) (s : State) : State :=
  State.push [.elem k]
    { s with
      hd := { s.hd with
        rep := if s.hd.repLen = newLen then s.hd.rep else 0
        repLen := newLen } }

/-- R175: symbol 16, repeat the previous non-zero length. -/
def execClsymRepeat (s : State) : Result := .next (s.beginRepeat s.hd.prevLen .clrep16)

/-- R175: symbol 17, repeat zero. -/
def execClsymZeros (s : State) : Result := .next (s.beginRepeat 0 .clrep17)

/-- R175: the new `repeat` after `xb` extra bits of value `x`. -/
def newRepeat (rep xb x : Nat) : Nat := (if 0 < rep then (rep - 2) <<< xb else rep) + x + 3

/-- R175: the run named by a repeat symbol and its extra bits. -/
def State.putRepeat (xb x : Nat) (s : State) : State :=
  let r := newRepeat s.hd.rep xb x
  let delta := r - s.hd.rep
  let t := { s with hd := { s.hd with rep := r } }
  if s.hd.a < s.hd.symbol + delta then t.raise .malformedHuffman 6
  else
    { t with
      hd := { t.hd with
        len := fillLens s.hd.len s.hd.symbol delta s.hd.repLen
        symbol := s.hd.symbol + delta
        space :=
          if s.hd.repLen = 0 then s.hd.space
          else s.hd.space - ((delta <<< (Config.maxCodeLen - s.hd.repLen) : Nat) : Int) } }

/-- R175: the two extra bits after symbol 16. -/
def execClrepExtra16 (x : Nat) (s : State) : Result := .next (s.putRepeat 2 x)

/-- R175: the three extra bits after symbol 17. -/
def execClrepExtra17 (x : Nat) (s : State) : Result := .next (s.putRepeat 3 x)

end Sys2Proof.Machine
end

