-- ==== Sys2Proof/Machine/Commands.lean ====
section
/-! DEFINITION. The command header and the literals (46_command_decoder.md R257 to R260, 30_encoding.md R108). -/

namespace Sys2Proof.Machine

/-- R257, R108: the split of a command symbol; its extra bits follow, insert before copy (R97). -/
def State.latchCommand (cell i c : Nat) (s : State) : State :=
  State.push [.elem .ins, .elem .cpy, .act .cmdHeaderEnd]
    { s with
      visit := { s.visit with
        insCode := insertCode cell i
        cpyCode := copyCode cell c
        implicit := decide (cell < 2) } }

/-- R108, R257: symbols 0 to 63. -/
def execCmdsymCell0 (i c : Nat) (s : State) : Result := .next (s.latchCommand 0 i c)

/-- R108, R257: symbols 64 to 127. -/
def execCmdsymCell1 (i c : Nat) (s : State) : Result := .next (s.latchCommand 1 i c)

/-- R108, R257: symbols 128 to 191. -/
def execCmdsymCell2 (i c : Nat) (s : State) : Result := .next (s.latchCommand 2 i c)

/-- R108, R257: symbols 192 to 255. -/
def execCmdsymCell3 (i c : Nat) (s : State) : Result := .next (s.latchCommand 3 i c)

/-- R108, R257: symbols 256 to 319. -/
def execCmdsymCell4 (i c : Nat) (s : State) : Result := .next (s.latchCommand 4 i c)

/-- R108, R257: symbols 320 to 383. -/
def execCmdsymCell5 (i c : Nat) (s : State) : Result := .next (s.latchCommand 5 i c)

/-- R108, R257: symbols 384 to 447. -/
def execCmdsymCell6 (i c : Nat) (s : State) : Result := .next (s.latchCommand 6 i c)

/-- R108, R257: symbols 448 to 511. -/
def execCmdsymCell7 (i c : Nat) (s : State) : Result := .next (s.latchCommand 7 i c)

/-- R108, R257: symbols 512 to 575. -/
def execCmdsymCell8 (i c : Nat) (s : State) : Result := .next (s.latchCommand 8 i c)

/-- R108, R257: symbols 576 to 639. -/
def execCmdsymCell9 (i c : Nat) (s : State) : Result := .next (s.latchCommand 9 i c)

/-- R108, R257: symbols 640 to 703. -/
def execCmdsymCell10 (i c : Nat) (s : State) : Result := .next (s.latchCommand 10 i c)

/-- R257: `CMD.INS <- n`. -/
def State.setInsert (n : Nat) (s : State) : State := { s with cmd := { s.cmd with ins := n } }

/-- R257: `CMD.CPY <- n`. -/
def State.setCopy (n : Nat) (s : State) : State := { s with cmd := { s.cmd with cpy := n } }

/-- R247: insert length code 0, offset 0, no extra bits. -/
def execIns0 (s : State) : Result := .next (s.setInsert (insOff 0))

/-- R247: insert length code 1, offset 1, no extra bits. -/
def execIns1 (s : State) : Result := .next (s.setInsert (insOff 1))

/-- R247: insert length code 2, offset 2, no extra bits. -/
def execIns2 (s : State) : Result := .next (s.setInsert (insOff 2))

/-- R247: insert length code 3, offset 3, no extra bits. -/
def execIns3 (s : State) : Result := .next (s.setInsert (insOff 3))

/-- R247: insert length code 4, offset 4, no extra bits. -/
def execIns4 (s : State) : Result := .next (s.setInsert (insOff 4))

/-- R247: insert length code 5, offset 5, no extra bits. -/
def execIns5 (s : State) : Result := .next (s.setInsert (insOff 5))

/-- R247: insert length code 6, offset 6. -/
def execIns6 (x : Nat) (s : State) : Result := .next (s.setInsert (insOff 6 + x))

/-- R247: insert length code 7, offset 8. -/
def execIns7 (x : Nat) (s : State) : Result := .next (s.setInsert (insOff 7 + x))

/-- R247: insert length code 8, offset 10. -/
def execIns8 (x : Nat) (s : State) : Result := .next (s.setInsert (insOff 8 + x))

/-- R247: insert length code 9, offset 14. -/
def execIns9 (x : Nat) (s : State) : Result := .next (s.setInsert (insOff 9 + x))

/-- R247: insert length code 10, offset 18. -/
def execIns10 (x : Nat) (s : State) : Result := .next (s.setInsert (insOff 10 + x))

/-- R247: insert length code 11, offset 26. -/
def execIns11 (x : Nat) (s : State) : Result := .next (s.setInsert (insOff 11 + x))

/-- R247: insert length code 12, offset 34. -/
def execIns12 (x : Nat) (s : State) : Result := .next (s.setInsert (insOff 12 + x))

/-- R247: insert length code 13, offset 50. -/
def execIns13 (x : Nat) (s : State) : Result := .next (s.setInsert (insOff 13 + x))

/-- R247: insert length code 14, offset 66. -/
def execIns14 (x : Nat) (s : State) : Result := .next (s.setInsert (insOff 14 + x))

/-- R247: insert length code 15, offset 98. -/
def execIns15 (x : Nat) (s : State) : Result := .next (s.setInsert (insOff 15 + x))

/-- R247: insert length code 16, offset 130. -/
def execIns16 (x : Nat) (s : State) : Result := .next (s.setInsert (insOff 16 + x))

/-- R247: insert length code 17, offset 194. -/
def execIns17 (x : Nat) (s : State) : Result := .next (s.setInsert (insOff 17 + x))

/-- R247: insert length code 18, offset 322. -/
def execIns18 (x : Nat) (s : State) : Result := .next (s.setInsert (insOff 18 + x))

/-- R247: insert length code 19, offset 578. -/
def execIns19 (x : Nat) (s : State) : Result := .next (s.setInsert (insOff 19 + x))

/-- R247: insert length code 20, offset 1090. -/
def execIns20 (x : Nat) (s : State) : Result := .next (s.setInsert (insOff 20 + x))

/-- R247: insert length code 21, offset 2114. -/
def execIns21 (x : Nat) (s : State) : Result := .next (s.setInsert (insOff 21 + x))

/-- R247: insert length code 22, offset 6210. -/
def execIns22 (x : Nat) (s : State) : Result := .next (s.setInsert (insOff 22 + x))

/-- R247: insert length code 23, offset 22594. -/
def execIns23 (x : Nat) (s : State) : Result := .next (s.setInsert (insOff 23 + x))

/-- R248: copy length code 0, offset 2, no extra bits. -/
def execCpy0 (s : State) : Result := .next (s.setCopy (cpyOff 0))

/-- R248: copy length code 1, offset 3, no extra bits. -/
def execCpy1 (s : State) : Result := .next (s.setCopy (cpyOff 1))

/-- R248: copy length code 2, offset 4, no extra bits. -/
def execCpy2 (s : State) : Result := .next (s.setCopy (cpyOff 2))

/-- R248: copy length code 3, offset 5, no extra bits. -/
def execCpy3 (s : State) : Result := .next (s.setCopy (cpyOff 3))

/-- R248: copy length code 4, offset 6, no extra bits. -/
def execCpy4 (s : State) : Result := .next (s.setCopy (cpyOff 4))

/-- R248: copy length code 5, offset 7, no extra bits. -/
def execCpy5 (s : State) : Result := .next (s.setCopy (cpyOff 5))

/-- R248: copy length code 6, offset 8, no extra bits. -/
def execCpy6 (s : State) : Result := .next (s.setCopy (cpyOff 6))

/-- R248: copy length code 7, offset 9, no extra bits. -/
def execCpy7 (s : State) : Result := .next (s.setCopy (cpyOff 7))

/-- R248: copy length code 8, offset 10. -/
def execCpy8 (x : Nat) (s : State) : Result := .next (s.setCopy (cpyOff 8 + x))

/-- R248: copy length code 9, offset 12. -/
def execCpy9 (x : Nat) (s : State) : Result := .next (s.setCopy (cpyOff 9 + x))

/-- R248: copy length code 10, offset 14. -/
def execCpy10 (x : Nat) (s : State) : Result := .next (s.setCopy (cpyOff 10 + x))

/-- R248: copy length code 11, offset 18. -/
def execCpy11 (x : Nat) (s : State) : Result := .next (s.setCopy (cpyOff 11 + x))

/-- R248: copy length code 12, offset 22. -/
def execCpy12 (x : Nat) (s : State) : Result := .next (s.setCopy (cpyOff 12 + x))

/-- R248: copy length code 13, offset 30. -/
def execCpy13 (x : Nat) (s : State) : Result := .next (s.setCopy (cpyOff 13 + x))

/-- R248: copy length code 14, offset 38. -/
def execCpy14 (x : Nat) (s : State) : Result := .next (s.setCopy (cpyOff 14 + x))

/-- R248: copy length code 15, offset 54. -/
def execCpy15 (x : Nat) (s : State) : Result := .next (s.setCopy (cpyOff 15 + x))

/-- R248: copy length code 16, offset 70. -/
def execCpy16 (x : Nat) (s : State) : Result := .next (s.setCopy (cpyOff 16 + x))

/-- R248: copy length code 17, offset 102. -/
def execCpy17 (x : Nat) (s : State) : Result := .next (s.setCopy (cpyOff 17 + x))

/-- R248: copy length code 18, offset 134. -/
def execCpy18 (x : Nat) (s : State) : Result := .next (s.setCopy (cpyOff 18 + x))

/-- R248: copy length code 19, offset 198. -/
def execCpy19 (x : Nat) (s : State) : Result := .next (s.setCopy (cpyOff 19 + x))

/-- R248: copy length code 20, offset 326. -/
def execCpy20 (x : Nat) (s : State) : Result := .next (s.setCopy (cpyOff 20 + x))

/-- R248: copy length code 21, offset 582. -/
def execCpy21 (x : Nat) (s : State) : Result := .next (s.setCopy (cpyOff 21 + x))

/-- R248: copy length code 22, offset 1094. -/
def execCpy22 (x : Nat) (s : State) : Result := .next (s.setCopy (cpyOff 22 + x))

/-- R248: copy length code 23, offset 2118. -/
def execCpy23 (x : Nat) (s : State) : Result := .next (s.setCopy (cpyOff 23 + x))

/-- R257, R258: `CMD.DCODE <- 0 if implicit else -1`, the insert check, `goto CMD_LITERAL`. -/
def State.cmdHeaderEnd (s : State) : State :=
  let t := { s with cmd := { s.cmd with dcode := if s.visit.implicit = true then 0 else -1 } }
  if s.mb.rem < s.cmd.ins then t.raise .invalidBackwardReference 2 else t.goto .cmdLiteral

/-- R260: `RB.PUT(b)`; after it the literal is counted. -/
def execLiteral (b : Byte) (s : State) : Result := .next (s.rbPut b [.act .litDone])

/-- R260: `CMD.INS <- CMD.INS - 1 ; MB.REM <- MB.REM - 1`. -/
def State.litDone (s : State) : State :=
  { s with cmd := { s.cmd with ins := s.cmd.ins - 1 }, mb := { s.mb with rem := s.mb.rem - 1 } }

end Sys2Proof.Machine
end

