-- ==== Sys2Proof/Machine/ContextMap.lean ====
section
/-! DEFINITION. The context-map decoder (43_context_map_decoder.md R185 to R190). -/

namespace Sys2Proof.Machine

/-- R187: read the context-map code, then the entries. -/
def readMapCode (a : Nat) : List Todo := [.op (.hdReadcode a), .act (.store .cm), .act .cmLoop]

/-- R185: `CM.DECODE(n)`: `m` all zero, then the elements. -/
def execCmDecode (n : Nat) (s : State) : Result :=
  .next (State.push [.elem .ntrees]
    { s with cm := { s.cm with n := n, mrlp := 0, i := 0, m := List.replicate n 0 } })

/-- R185, R186: `num_trees <- v + 1`; with one tree nothing more is read. -/
def execNtrees (v : Nat) (s : State) : Result :=
  let t := { s with cm := { s.cm with num := v + 1 } }
  if v = 0 then .next t else .next (t.push [.elem .rleflag])

/-- R185: `rle`; without run lengths `mrlp` is 0 and the code follows. -/
def execRleflag (v : Bool) (s : State) : Result :=
  if v = true then .next (s.push [.elem .rlemax])
  else .next (State.push (readMapCode s.cm.num) { s with cm := { s.cm with mrlp := 0 } })

/-- R185: `mrlp <- m + 1`, then the code. -/
def execRlemax (m : Nat) (s : State) : Result :=
  .next (State.push (readMapCode (s.cm.num + (m + 1))) { s with cm := { s.cm with mrlp := m + 1 } })

/-- R185: the loop over the entries; after it the `IMTF` flag. -/
def State.cmLoop (s : State) : State :=
  if s.cm.i < s.cm.n then s.push [.elem .cmsym, .act .cmLoop] else s.push [.elem .imtf]

/-- R185: `m[i] <- v ; i <- i + 1`. -/
def State.putEntry (v : Nat) (s : State) : Result :=
  if s.cm.i < s.cm.m.length then
    .next { s with cm := { s.cm with m := s.cm.m.set s.cm.i (BitVec.ofNat 8 v), i := s.cm.i + 1 } }
  else .fault .outsideSpace

/-- R187: symbol 0, one entry with tree 0. -/
def execCmsymZero (s : State) : Result := s.putEntry 0

/-- R187: symbol `k` of `1 .. mrlp`; its extra bits follow. -/
def execCmsymRun (k : Nat) (s : State) : Result :=
  .next (State.push [.elem .cmrun] { s with cm := { s.cm with k := k } })

/-- R187: symbol `k` above `mrlp`, one entry with tree `k - mrlp`. -/
def execCmsymTree (k : Nat) (s : State) : Result := s.putEntry (k - s.cm.mrlp)

/-- R185, R188: a run of `2^k + x` zeros; past the end of the map it is rejected whole. -/
def execCmrun (k x : Nat) (s : State) : Result :=
  if s.cm.n < s.cm.i + (2 ^ k + x) then .next (s.raise .malformedHuffman 8)
  else .next { s with cm := { s.cm with i := s.cm.i + (2 ^ k + x) } }

/-- R185: `IMTF`: 1 = apply the inverse move-to-front. -/
def execImtf (v : Bool) (s : State) : Result := if v = true then .next (s.push [.op .cmImtf]) else .next s

/-- R189: the loop of `CM.IMTF`, `mtf` being the list as it stands. -/
def imtfLoop : List Byte → List Byte → List Byte
  | _, [] => []
  | mtf, k :: rest =>
    let v := mtf.getD k.toNat 0
    v :: imtfLoop (v :: mtf.eraseIdx k.toNat) rest

/-- R189: the initial list `0, 1, .., 255`. -/
def mtfInit : List Byte := (List.range 256).map (BitVec.ofNat 8)

/-- R189: the inverse move-to-front of a map. -/
def imtf (m : List Byte) : List Byte := imtfLoop mtfInit m

/-- R189: `CM.IMTF(m, n)` over the map being decoded. -/
def execCmImtf (s : State) : Result := .next { s with cm := { s.cm with m := imtf s.cm.m } }

/-- R190, R253: `NTREES_L <- num_trees`, `CMAP_L <- m`. -/
def State.endMapL (s : State) : State :=
  State.goto .hdrCmapD { s with mb := { s.mb with ntreesL := s.cm.num }, cm := { s.cm with mapL := s.cm.m } }

/-- R190, R254: `NTREES_D <- num_trees`, `CMAP_D <- m`. -/
def State.endMapD (s : State) : State :=
  State.goto .hdrTrees { s with mb := { s.mb with ntreesD := s.cm.num }, cm := { s.cm with mapD := s.cm.m } }

end Sys2Proof.Machine
end

