-- ==== Sys2Proof/WellFormed.lean ====
section
/-! DEFINITION. Well-formed instructions: every field value in the range of its field (30_encoding.md R91, R93 to R97, R104),
every operand in the range its operation rule gives. -/

namespace Sys2Proof

/-- The check of one instruction: each field value fits its field, each operand is in the range of its rule. An instruction has no
state, so the bound of `SD.TRANSFORM`, `N_TRANSFORMS` in R222, is the 121 of the default table, whatever table `par` holds (DESIGN
CHOICE, notes/assumptions/12.md); the meaning of the operation is bounded by the table itself. -/
def Instr.WellFormed (i : Instr) : Bool :=
  match i with
  | .islast _ => true
  | .isempty _ => true
  | .mnibbles n => decide (n < 4)
  | .mlenNibble d => decide (d < 16)
  | .isuncompressed _ => true
  | .pad n x => decide (n < 8) && decide (x < 2 ^ n)
  | .rawbyte _ => true
  | .varlen8Zero => true
  | .varlen8One => true
  | .varlen8N n x => decide (1 ≤ n) && decide (n < 8) && decide (x < 2 ^ n)
  | .nbltypes v => decide (v < 256)
  | .blenFirst code x => decide (code < 26) && decide (x < 2 ^ blenBits code)
  | .npostfix p => decide (p < 4)
  | .ndirectHi d => decide (d < 16)
  | .cmodeLsb6 => true
  | .cmodeMsb6 => true
  | .cmodeUtf8 => true
  | .cmodeSigned => true
  | .ntrees v => decide (v < 256)
  | .rleflag _ => true
  | .rlemax m => decide (m < 16)
  | .cmsymZero => true
  | .cmsymRun k => decide (1 ≤ k) && decide (k ≤ 16)
  | .cmsymTree k => decide (1 ≤ k) && decide (k < 512)
  | .cmrun k x => decide (1 ≤ k) && decide (k ≤ 16) && decide (x < 2 ^ k)
  | .imtf _ => true
  | .hskipSimple => true
  | .hskipComplex0 => true
  | .hskipComplex2 => true
  | .hskipComplex3 => true
  | .nsym n => decide (n < 4)
  | .simpleSym w v => decide (w ≤ 10) && decide (v < 2 ^ w)
  | .treeSelect _ => true
  | .clcl0 => true
  | .clcl3 => true
  | .clcl4 => true
  | .clcl2 => true
  | .clcl1 => true
  | .clcl5 => true
  | .clsymLen0 => true
  | .clsymLen1 => true
  | .clsymLen2 => true
  | .clsymLen3 => true
  | .clsymLen4 => true
  | .clsymLen5 => true
  | .clsymLen6 => true
  | .clsymLen7 => true
  | .clsymLen8 => true
  | .clsymLen9 => true
  | .clsymLen10 => true
  | .clsymLen11 => true
  | .clsymLen12 => true
  | .clsymLen13 => true
  | .clsymLen14 => true
  | .clsymLen15 => true
  | .clsymRepeat => true
  | .clsymZeros => true
  | .clrepExtra16 x => decide (x < 4)
  | .clrepExtra17 x => decide (x < 8)
  | .btsymPrev => true
  | .btsymNext => true
  | .btsymExplicit k => decide (2 ≤ k) && decide (k < 258)
  | .blen0 x => decide (x < 2 ^ 2)
  | .blen1 x => decide (x < 2 ^ 2)
  | .blen2 x => decide (x < 2 ^ 2)
  | .blen3 x => decide (x < 2 ^ 2)
  | .blen4 x => decide (x < 2 ^ 3)
  | .blen5 x => decide (x < 2 ^ 3)
  | .blen6 x => decide (x < 2 ^ 3)
  | .blen7 x => decide (x < 2 ^ 3)
  | .blen8 x => decide (x < 2 ^ 4)
  | .blen9 x => decide (x < 2 ^ 4)
  | .blen10 x => decide (x < 2 ^ 4)
  | .blen11 x => decide (x < 2 ^ 4)
  | .blen12 x => decide (x < 2 ^ 5)
  | .blen13 x => decide (x < 2 ^ 5)
  | .blen14 x => decide (x < 2 ^ 5)
  | .blen15 x => decide (x < 2 ^ 5)
  | .blen16 x => decide (x < 2 ^ 6)
  | .blen17 x => decide (x < 2 ^ 6)
  | .blen18 x => decide (x < 2 ^ 7)
  | .blen19 x => decide (x < 2 ^ 8)
  | .blen20 x => decide (x < 2 ^ 9)
  | .blen21 x => decide (x < 2 ^ 10)
  | .blen22 x => decide (x < 2 ^ 11)
  | .blen23 x => decide (x < 2 ^ 12)
  | .blen24 x => decide (x < 2 ^ 13)
  | .blen25 x => decide (x < 2 ^ 24)
  | .cmdsymCell0 i c => decide (i < 8) && decide (c < 8)
  | .cmdsymCell1 i c => decide (i < 8) && decide (c < 8)
  | .cmdsymCell2 i c => decide (i < 8) && decide (c < 8)
  | .cmdsymCell3 i c => decide (i < 8) && decide (c < 8)
  | .cmdsymCell4 i c => decide (i < 8) && decide (c < 8)
  | .cmdsymCell5 i c => decide (i < 8) && decide (c < 8)
  | .cmdsymCell6 i c => decide (i < 8) && decide (c < 8)
  | .cmdsymCell7 i c => decide (i < 8) && decide (c < 8)
  | .cmdsymCell8 i c => decide (i < 8) && decide (c < 8)
  | .cmdsymCell9 i c => decide (i < 8) && decide (c < 8)
  | .cmdsymCell10 i c => decide (i < 8) && decide (c < 8)
  | .ins0 => true
  | .ins1 => true
  | .ins2 => true
  | .ins3 => true
  | .ins4 => true
  | .ins5 => true
  | .ins6 x => decide (x < 2 ^ 1)
  | .ins7 x => decide (x < 2 ^ 1)
  | .ins8 x => decide (x < 2 ^ 2)
  | .ins9 x => decide (x < 2 ^ 2)
  | .ins10 x => decide (x < 2 ^ 3)
  | .ins11 x => decide (x < 2 ^ 3)
  | .ins12 x => decide (x < 2 ^ 4)
  | .ins13 x => decide (x < 2 ^ 4)
  | .ins14 x => decide (x < 2 ^ 5)
  | .ins15 x => decide (x < 2 ^ 5)
  | .ins16 x => decide (x < 2 ^ 6)
  | .ins17 x => decide (x < 2 ^ 7)
  | .ins18 x => decide (x < 2 ^ 8)
  | .ins19 x => decide (x < 2 ^ 9)
  | .ins20 x => decide (x < 2 ^ 10)
  | .ins21 x => decide (x < 2 ^ 12)
  | .ins22 x => decide (x < 2 ^ 14)
  | .ins23 x => decide (x < 2 ^ 24)
  | .cpy0 => true
  | .cpy1 => true
  | .cpy2 => true
  | .cpy3 => true
  | .cpy4 => true
  | .cpy5 => true
  | .cpy6 => true
  | .cpy7 => true
  | .cpy8 x => decide (x < 2 ^ 1)
  | .cpy9 x => decide (x < 2 ^ 1)
  | .cpy10 x => decide (x < 2 ^ 2)
  | .cpy11 x => decide (x < 2 ^ 2)
  | .cpy12 x => decide (x < 2 ^ 3)
  | .cpy13 x => decide (x < 2 ^ 3)
  | .cpy14 x => decide (x < 2 ^ 4)
  | .cpy15 x => decide (x < 2 ^ 4)
  | .cpy16 x => decide (x < 2 ^ 5)
  | .cpy17 x => decide (x < 2 ^ 5)
  | .cpy18 x => decide (x < 2 ^ 6)
  | .cpy19 x => decide (x < 2 ^ 7)
  | .cpy20 x => decide (x < 2 ^ 8)
  | .cpy21 x => decide (x < 2 ^ 9)
  | .cpy22 x => decide (x < 2 ^ 10)
  | .cpy23 x => decide (x < 2 ^ 24)
  | .literal _ => true
  | .distsymShort0 => true
  | .distsymShort1 => true
  | .distsymShort2 => true
  | .distsymShort3 => true
  | .distsymShort4 => true
  | .distsymShort5 => true
  | .distsymShort6 => true
  | .distsymShort7 => true
  | .distsymShort8 => true
  | .distsymShort9 => true
  | .distsymShort10 => true
  | .distsymShort11 => true
  | .distsymShort12 => true
  | .distsymShort13 => true
  | .distsymShort14 => true
  | .distsymShort15 => true
  | .distsymDirect c => decide (16 ≤ c) && decide (c < 136)
  | .distsymLong c => decide (16 ≤ c) && decide (c < 520)
  | .distExtra nb x => decide (1 ≤ nb) && decide (nb ≤ 24) && decide (x < 2 ^ nb)
  | .brFill => true
  | .brPeek n => decide (n ≤ 24)
  | .brDrop n => decide (n ≤ 24)
  | .brRead n => decide (n ≤ 24)
  | .brAlign => true
  | .brByte => true
  | .htBuild _ a r => decide (1 ≤ a) && decide (a ≤ 704) && decide (r ≤ 15)
  | .hdSym _ => true
  | .hdReadcode a => decide (2 ≤ a) && decide (a ≤ 704)
  | .hdSimple a => decide (2 ≤ a) && decide (a ≤ 704)
  | .hdComplex a skip => decide (2 ≤ a) && decide (a ≤ 704) && (skip == 0 || skip == 2 || skip == 3)
  | .cmDecode n => decide (1 ≤ n) && decide (n ≤ 16384)
  | .cmImtf => true
  | .rbPut _ => true
  | .rbGet d => decide (1 ≤ d)
  | .rbCopy d _ => decide (1 ≤ d)
  | .rbFlush => true
  | .sdLookup _ _ => true
  | .sdTransform _ t => decide (t < 121)
  | .opStart => true
  | .opAbort => true
  | .opSizeq => true
  | .ctrlStart => true
  | .ctrlAbort => true
  | .ctrlSizeq => true
  | .cdIdle => true
  | .cdMbBegin => true
  | .cdMbHeader => true
  | .cdUncompressedCopy => true
  | .cdHdrBlocks => true
  | .cdHdrDistparams => true
  | .cdHdrCtxmodes => true
  | .cdHdrCmapL => true
  | .cdHdrCmapD => true
  | .cdHdrTrees => true
  | .cdCmdBegin => true
  | .cdCmdLiteral => true
  | .cdCmdDistance => true
  | .cdCmdCopyWindow => true
  | .cdCmdCopyDict => true
  | .cdCmdEnd => true
  | .cdMbDone => true
  | .cdFlush => true
  | .cdFinished => true
  | .cdError => true

end Sys2Proof
end

