-- ==== Sys2Proof/Decode.lean ====
section
/-! DEFINITION. The decoder and the encoder. A stream element is decoded by the format the grammar names at its place
(30_encoding.md R91, R92, R112): a fixed field, a prefix-coded symbol of a transmitted table, a symbol with extra bits,
padding, a raw byte, `VARLEN8` or `CL_VLC`. The decoder is total on any bits and answers `none` where a format has no
instruction for them. At the end stands the reading of the opcode table's own words (`decodeTableWord`). -/

namespace Sys2Proof

/-- R91: the format of the element expected, with everything its decoding depends on: tables (R107), widths that earlier
elements fix (R115). -/
inductive ElemFmt where
  | islast
  | isempty
  | mnibbles
  | mlenNibble
  | isuncompressed
  /-- `n` bits to the next byte boundary -/
  | pad (n : Nat)
  | rawbyte
  | varlen8
  | nbltypes
  | blenFirst (t : Table)
  | npostfix
  | ndirectHi
  | cmode
  | ntrees
  | rleflag
  | rlemax
  | cmsym (t : Table) (mrlp : Nat)
  | cmrun (k : Nat)
  | imtf
  | hskip
  | nsym
  /-- `w = bitlen(a-1)` -/
  | simpleSym (w : Nat)
  | treeSelect
  | clcl
  | clsym (t : Table)
  | clrep16
  | clrep17
  | btsym (t : Table)
  | blen (t : Table)
  | cmdsym (t : Table)
  /-- `code = insert_code` -/
  | ins (code : Nat)
  /-- `code = copy_code` -/
  | cpy (code : Nat)
  | literal (t : Table)
  | distsym (t : Table) (numdirect : Nat)
  | distExtra (nb : Nat)
  deriving DecidableEq, Repr

/-- What the decoder answers: the instruction and the reads its element takes. -/
abbrev Decoded := Option (Instr × List Field)

/-- R91: an `F(n)` element of value `w mod 2^n`. -/
def fixedField (n : Nat) (w : Nat) (f : Nat → Instr) : Decoded := some (f (w % 2 ^ n), [⟨n, n⟩])

/-- R91: a one-bit `F(1)` element. -/
def flagField (w : Nat) (f : Bool → Instr) : Decoded := some (f (w % 2 == 1), [⟨1, 1⟩])

/-- R104: the `VARLEN8` pattern at the head of the stream bits `w`. -/
def decodeVarlen8 (w : Nat) : Instr × List Field :=
  if w % 2 = 0 then (.varlen8Zero, [⟨1, 1⟩])
  else
    let n := w / 2 % 8
    if n = 0 then (.varlen8One, [⟨1, 1⟩, ⟨3, 3⟩])
    else (.varlen8N n (w / 16 % 2 ^ n), [⟨1, 1⟩, ⟨3, 3⟩, ⟨n, n⟩])

/-- R104: the value of a `VARLEN8` pattern. -/
def varlen8Value : Instr → Nat
  | .varlen8One => 1
  | .varlen8N n x => 2 ^ n + x
  | _ => 0

/-- R104: an element spelt with `VARLEN8`. -/
def varlen8Elem (w : Nat) (f : Nat → Instr) : Decoded :=
  some (f (varlen8Value (decodeVarlen8 w).1), (decodeVarlen8 w).2)

/-- R91: a prefix-coded symbol of table `t`; `f` names the instruction of each symbol of the alphabet. -/
def symbolElem (t : Table) (w : Nat) (f : Nat → Option Instr) : Decoded :=
  match lookupSym t w with
  | none => none
  | some (sym, fs) =>
    match f sym with
    | none => none
    | some i => some (i, fs)

/-- R91, R106: a symbol of table `t` and the extra bits of its code. -/
def extraElem (t : Table) (w : Nat) (nb : Nat → Nat) (f : Nat → Nat → Option Instr) : Decoded :=
  match lookupSym t w with
  | none => none
  | some (sym, fs) =>
    match f sym (w / 2 ^ fieldBits fs % 2 ^ nb sym) with
    | none => none
    | some i => some (i, fs ++ [⟨nb sym, nb sym⟩])

/-- R262: the context mode of a mode number. -/
def cmodeInstr : Nat → Option Instr
  | 0 => some (.cmodeLsb6)
  | 1 => some (.cmodeMsb6)
  | 2 => some (.cmodeUtf8)
  | 3 => some (.cmodeSigned)
  | _ => none

/-- R95, R168: the selector of a prefix-code description. -/
def hskipInstr : Nat → Option Instr
  | 0 => some (.hskipComplex0)
  | 1 => some (.hskipSimple)
  | 2 => some (.hskipComplex2)
  | 3 => some (.hskipComplex3)
  | _ => none

/-- R172: the code-length-code length of a value. -/
def clclInstr : Nat → Option Instr
  | 0 => some (.clcl0)
  | 1 => some (.clcl1)
  | 2 => some (.clcl2)
  | 3 => some (.clcl3)
  | 4 => some (.clcl4)
  | 5 => some (.clcl5)
  | _ => none

/-- R111: the code-length symbol 0 .. 17. -/
def clsymInstr : Nat → Option Instr
  | 0 => some (.clsymLen0)
  | 1 => some (.clsymLen1)
  | 2 => some (.clsymLen2)
  | 3 => some (.clsymLen3)
  | 4 => some (.clsymLen4)
  | 5 => some (.clsymLen5)
  | 6 => some (.clsymLen6)
  | 7 => some (.clsymLen7)
  | 8 => some (.clsymLen8)
  | 9 => some (.clsymLen9)
  | 10 => some (.clsymLen10)
  | 11 => some (.clsymLen11)
  | 12 => some (.clsymLen12)
  | 13 => some (.clsymLen13)
  | 14 => some (.clsymLen14)
  | 15 => some (.clsymLen15)
  | 16 => some (.clsymRepeat)
  | 17 => some (.clsymZeros)
  | _ => none

/-- R246: the block length code and its extra bits. -/
def blenInstr : Nat → Nat → Option Instr
  | 0, x => some (.blen0 x)
  | 1, x => some (.blen1 x)
  | 2, x => some (.blen2 x)
  | 3, x => some (.blen3 x)
  | 4, x => some (.blen4 x)
  | 5, x => some (.blen5 x)
  | 6, x => some (.blen6 x)
  | 7, x => some (.blen7 x)
  | 8, x => some (.blen8 x)
  | 9, x => some (.blen9 x)
  | 10, x => some (.blen10 x)
  | 11, x => some (.blen11 x)
  | 12, x => some (.blen12 x)
  | 13, x => some (.blen13 x)
  | 14, x => some (.blen14 x)
  | 15, x => some (.blen15 x)
  | 16, x => some (.blen16 x)
  | 17, x => some (.blen17 x)
  | 18, x => some (.blen18 x)
  | 19, x => some (.blen19 x)
  | 20, x => some (.blen20 x)
  | 21, x => some (.blen21 x)
  | 22, x => some (.blen22 x)
  | 23, x => some (.blen23 x)
  | 24, x => some (.blen24 x)
  | 25, x => some (.blen25 x)
  | _, _ => none

/-- R247: the insert length code and its extra bits. -/
def insInstr : Nat → Nat → Option Instr
  | 0, _ => some (.ins0)
  | 1, _ => some (.ins1)
  | 2, _ => some (.ins2)
  | 3, _ => some (.ins3)
  | 4, _ => some (.ins4)
  | 5, _ => some (.ins5)
  | 6, x => some (.ins6 x)
  | 7, x => some (.ins7 x)
  | 8, x => some (.ins8 x)
  | 9, x => some (.ins9 x)
  | 10, x => some (.ins10 x)
  | 11, x => some (.ins11 x)
  | 12, x => some (.ins12 x)
  | 13, x => some (.ins13 x)
  | 14, x => some (.ins14 x)
  | 15, x => some (.ins15 x)
  | 16, x => some (.ins16 x)
  | 17, x => some (.ins17 x)
  | 18, x => some (.ins18 x)
  | 19, x => some (.ins19 x)
  | 20, x => some (.ins20 x)
  | 21, x => some (.ins21 x)
  | 22, x => some (.ins22 x)
  | 23, x => some (.ins23 x)
  | _, _ => none

/-- R248: the copy length code and its extra bits. -/
def cpyInstr : Nat → Nat → Option Instr
  | 0, _ => some (.cpy0)
  | 1, _ => some (.cpy1)
  | 2, _ => some (.cpy2)
  | 3, _ => some (.cpy3)
  | 4, _ => some (.cpy4)
  | 5, _ => some (.cpy5)
  | 6, _ => some (.cpy6)
  | 7, _ => some (.cpy7)
  | 8, x => some (.cpy8 x)
  | 9, x => some (.cpy9 x)
  | 10, x => some (.cpy10 x)
  | 11, x => some (.cpy11 x)
  | 12, x => some (.cpy12 x)
  | 13, x => some (.cpy13 x)
  | 14, x => some (.cpy14 x)
  | 15, x => some (.cpy15 x)
  | 16, x => some (.cpy16 x)
  | 17, x => some (.cpy17 x)
  | 18, x => some (.cpy18 x)
  | 19, x => some (.cpy19 x)
  | 20, x => some (.cpy20 x)
  | 21, x => some (.cpy21 x)
  | 22, x => some (.cpy22 x)
  | 23, x => some (.cpy23 x)
  | _, _ => none

/-- R108: the cell of a command symbol with its sub-indexes. -/
def cellInstr : Nat → Nat → Nat → Option Instr
  | 0, x, y => some (.cmdsymCell0 x y)
  | 1, x, y => some (.cmdsymCell1 x y)
  | 2, x, y => some (.cmdsymCell2 x y)
  | 3, x, y => some (.cmdsymCell3 x y)
  | 4, x, y => some (.cmdsymCell4 x y)
  | 5, x, y => some (.cmdsymCell5 x y)
  | 6, x, y => some (.cmdsymCell6 x y)
  | 7, x, y => some (.cmdsymCell7 x y)
  | 8, x, y => some (.cmdsymCell8 x y)
  | 9, x, y => some (.cmdsymCell9 x y)
  | 10, x, y => some (.cmdsymCell10 x y)
  | _, _, _ => none

/-- R109: the short distance codes 0 .. 15. -/
def shortInstr : Nat → Option Instr
  | 0 => some (.distsymShort0)
  | 1 => some (.distsymShort1)
  | 2 => some (.distsymShort2)
  | 3 => some (.distsymShort3)
  | 4 => some (.distsymShort4)
  | 5 => some (.distsymShort5)
  | 6 => some (.distsymShort6)
  | 7 => some (.distsymShort7)
  | 8 => some (.distsymShort8)
  | 9 => some (.distsymShort9)
  | 10 => some (.distsymShort10)
  | 11 => some (.distsymShort11)
  | 12 => some (.distsymShort12)
  | 13 => some (.distsymShort13)
  | 14 => some (.distsymShort14)
  | 15 => some (.distsymShort15)
  | _ => none

/-- R187: a context-map symbol. -/
def cmsymInstr (mrlp c : Nat) : Option Instr :=
  if c = 0 then some .cmsymZero else if c ≤ mrlp then some (.cmsymRun c) else some (.cmsymTree c)

/-- R110: a block-type symbol. -/
def btsymInstr (k : Nat) : Option Instr :=
  if k = 0 then some .btsymPrev else if k = 1 then some .btsymNext else some (.btsymExplicit k)

/-- R108: a command symbol `s`, split into cell `s[9:6]`, insert sub-index `s[5:3]` and copy sub-index `s[2:0]`. -/
def cmdsymInstr (s : Nat) : Option Instr := cellInstr (s / 64) (s / 8 % 8) (s % 8)

/-- R107: a literal symbol, the byte value. -/
def literalInstr (s : Nat) : Option Instr := if s < 256 then some (.literal (BitVec.ofNat 8 s)) else none

/-- R109: a distance symbol: short, direct or long. -/
def distsymInstr (numdirect c : Nat) : Option Instr :=
  if c < 16 then shortInstr c else if c < numdirect then some (.distsymDirect c) else some (.distsymLong c)

/-- R112: the instruction at the head of the stream bits `w` (first bit in bit 0) where an element of format `fmt` is
expected, with the reads it takes. Total: every format, every bits. -/
def decodeElem (fmt : ElemFmt) (w : Nat) : Decoded :=
  match fmt with
  | .islast => flagField w .islast
  | .isempty => flagField w .isempty
  | .mnibbles => fixedField 2 w .mnibbles
  | .mlenNibble => fixedField 4 w .mlenNibble
  | .isuncompressed => flagField w .isuncompressed
  | .pad n => fixedField n w (.pad n)
  | .rawbyte => fixedField 8 w fun v => .rawbyte (BitVec.ofNat 8 v)
  | .varlen8 => some (decodeVarlen8 w)
  | .nbltypes => varlen8Elem w .nbltypes
  | .blenFirst t => extraElem t w blenBits fun k x => if k < 26 then some (.blenFirst k x) else none
  | .npostfix => fixedField 2 w .npostfix
  | .ndirectHi => fixedField 4 w .ndirectHi
  | .cmode => (cmodeInstr (w % 4)).map fun i => (i, [⟨2, 2⟩])
  | .ntrees => varlen8Elem w .ntrees
  | .rleflag => flagField w .rleflag
  | .rlemax => fixedField 4 w .rlemax
  | .cmsym t mrlp => symbolElem t w (cmsymInstr mrlp)
  | .cmrun k => fixedField k w (.cmrun k)
  | .imtf => flagField w .imtf
  | .hskip => (hskipInstr (w % 4)).map fun i => (i, [⟨2, 2⟩])
  | .nsym => fixedField 2 w .nsym
  | .simpleSym n => fixedField n w (.simpleSym n)
  | .treeSelect => flagField w .treeSelect
  | .clcl => (clclInstr (clVlc (w % 16)).2).map fun i => (i, [⟨4, (clVlc (w % 16)).1⟩])
  | .clsym t => symbolElem t w clsymInstr
  | .clrep16 => fixedField 2 w .clrepExtra16
  | .clrep17 => fixedField 3 w .clrepExtra17
  | .btsym t => symbolElem t w btsymInstr
  | .blen t => extraElem t w blenBits blenInstr
  | .cmdsym t => symbolElem t w cmdsymInstr
  | .ins k => (insInstr k (w % 2 ^ insBits k)).map fun i => (i, [⟨insBits k, insBits k⟩])
  | .cpy k => (cpyInstr k (w % 2 ^ cpyBits k)).map fun i => (i, [⟨cpyBits k, cpyBits k⟩])
  | .literal t => symbolElem t w literalInstr
  | .distsym t nd => symbolElem t w (distsymInstr nd)
  | .distExtra nb => fixedField nb w (.distExtra nb)

/-! ## The encoder -/

/-- R104: the unique `VARLEN8` spelling of a value 0 .. 255: its bits and its length. -/
def encodeVarlen8 (v : Nat) : Option (Nat × Nat) :=
  if v = 0 then some (0, 1)
  else if v = 1 then some (1, 4)
  else if v < 256 then
    let n := bitlen v - 1
    some (1 + 2 * n + 16 * (v - 2 ^ n), 4 + n)
  else none

/-- R91: the bits and length of an `F(n)` field of value `v`; none where the value does not fit. -/
def encodeField (n v : Nat) : Option (Nat × Nat) := if v < 2 ^ n then some (v, n) else none

/-- R91: the bits and length of a one-bit field. -/
def encodeFlag (v : Bool) : Option (Nat × Nat) := some (if v then 1 else 0, 1)

/-- R91, R106: a codeword followed by `nb` extra bits. -/
def encodeExtra (t : Table) (sym nb x : Nat) : Option (Nat × Nat) :=
  match encodeSym t sym with
  | some (v, n) => if x < 2 ^ nb then some (v + 2 ^ n * x, n + nb) else none
  | none => none

/-- R172: the value of a `CLCL` element. -/
def clclValue : Instr → Option Nat
  | .clcl0 => some 0
  | .clcl1 => some 1
  | .clcl2 => some 2
  | .clcl3 => some 3
  | .clcl4 => some 4
  | .clcl5 => some 5
  | _ => none

/-- R111: the symbol of a `CLSYM` element. -/
def clsymValue : Instr → Option Nat
  | .clsymLen0 => some 0
  | .clsymLen1 => some 1
  | .clsymLen2 => some 2
  | .clsymLen3 => some 3
  | .clsymLen4 => some 4
  | .clsymLen5 => some 5
  | .clsymLen6 => some 6
  | .clsymLen7 => some 7
  | .clsymLen8 => some 8
  | .clsymLen9 => some 9
  | .clsymLen10 => some 10
  | .clsymLen11 => some 11
  | .clsymLen12 => some 12
  | .clsymLen13 => some 13
  | .clsymLen14 => some 14
  | .clsymLen15 => some 15
  | .clsymRepeat => some 16
  | .clsymZeros => some 17
  | _ => none

/-- R262: the number of a context mode. -/
def cmodeValue : Instr → Option Nat
  | .cmodeLsb6 => some 0
  | .cmodeMsb6 => some 1
  | .cmodeUtf8 => some 2
  | .cmodeSigned => some 3
  | _ => none

/-- R95: the value of a selector. -/
def hskipValue : Instr → Option Nat
  | .hskipSimple => some 1
  | .hskipComplex0 => some 0
  | .hskipComplex2 => some 2
  | .hskipComplex3 => some 3
  | _ => none

/-- R246: the code and the extra bits of a `BLEN` element. -/
def blenValue : Instr → Option (Nat × Nat)
  | .blen0 x => some (0, x)
  | .blen1 x => some (1, x)
  | .blen2 x => some (2, x)
  | .blen3 x => some (3, x)
  | .blen4 x => some (4, x)
  | .blen5 x => some (5, x)
  | .blen6 x => some (6, x)
  | .blen7 x => some (7, x)
  | .blen8 x => some (8, x)
  | .blen9 x => some (9, x)
  | .blen10 x => some (10, x)
  | .blen11 x => some (11, x)
  | .blen12 x => some (12, x)
  | .blen13 x => some (13, x)
  | .blen14 x => some (14, x)
  | .blen15 x => some (15, x)
  | .blen16 x => some (16, x)
  | .blen17 x => some (17, x)
  | .blen18 x => some (18, x)
  | .blen19 x => some (19, x)
  | .blen20 x => some (20, x)
  | .blen21 x => some (21, x)
  | .blen22 x => some (22, x)
  | .blen23 x => some (23, x)
  | .blen24 x => some (24, x)
  | .blen25 x => some (25, x)
  | _ => none

/-- R247: the code and the extra bits of an `INS` element. -/
def insValue : Instr → Option (Nat × Nat)
  | .ins0 => some (0, 0)
  | .ins1 => some (1, 0)
  | .ins2 => some (2, 0)
  | .ins3 => some (3, 0)
  | .ins4 => some (4, 0)
  | .ins5 => some (5, 0)
  | .ins6 x => some (6, x)
  | .ins7 x => some (7, x)
  | .ins8 x => some (8, x)
  | .ins9 x => some (9, x)
  | .ins10 x => some (10, x)
  | .ins11 x => some (11, x)
  | .ins12 x => some (12, x)
  | .ins13 x => some (13, x)
  | .ins14 x => some (14, x)
  | .ins15 x => some (15, x)
  | .ins16 x => some (16, x)
  | .ins17 x => some (17, x)
  | .ins18 x => some (18, x)
  | .ins19 x => some (19, x)
  | .ins20 x => some (20, x)
  | .ins21 x => some (21, x)
  | .ins22 x => some (22, x)
  | .ins23 x => some (23, x)
  | _ => none

/-- R248: the code and the extra bits of a `CPY` element. -/
def cpyValue : Instr → Option (Nat × Nat)
  | .cpy0 => some (0, 0)
  | .cpy1 => some (1, 0)
  | .cpy2 => some (2, 0)
  | .cpy3 => some (3, 0)
  | .cpy4 => some (4, 0)
  | .cpy5 => some (5, 0)
  | .cpy6 => some (6, 0)
  | .cpy7 => some (7, 0)
  | .cpy8 x => some (8, x)
  | .cpy9 x => some (9, x)
  | .cpy10 x => some (10, x)
  | .cpy11 x => some (11, x)
  | .cpy12 x => some (12, x)
  | .cpy13 x => some (13, x)
  | .cpy14 x => some (14, x)
  | .cpy15 x => some (15, x)
  | .cpy16 x => some (16, x)
  | .cpy17 x => some (17, x)
  | .cpy18 x => some (18, x)
  | .cpy19 x => some (19, x)
  | .cpy20 x => some (20, x)
  | .cpy21 x => some (21, x)
  | .cpy22 x => some (22, x)
  | .cpy23 x => some (23, x)
  | _ => none

/-- R108: the cell and the two sub-indexes of a command symbol. -/
def cmdsymParts : Instr → Option (Nat × Nat × Nat)
  | .cmdsymCell0 i c => some (0, i, c)
  | .cmdsymCell1 i c => some (1, i, c)
  | .cmdsymCell2 i c => some (2, i, c)
  | .cmdsymCell3 i c => some (3, i, c)
  | .cmdsymCell4 i c => some (4, i, c)
  | .cmdsymCell5 i c => some (5, i, c)
  | .cmdsymCell6 i c => some (6, i, c)
  | .cmdsymCell7 i c => some (7, i, c)
  | .cmdsymCell8 i c => some (8, i, c)
  | .cmdsymCell9 i c => some (9, i, c)
  | .cmdsymCell10 i c => some (10, i, c)
  | _ => none

/-- R109: the short distance code. -/
def shortValue : Instr → Option Nat
  | .distsymShort0 => some 0
  | .distsymShort1 => some 1
  | .distsymShort2 => some 2
  | .distsymShort3 => some 3
  | .distsymShort4 => some 4
  | .distsymShort5 => some 5
  | .distsymShort6 => some 6
  | .distsymShort7 => some 7
  | .distsymShort8 => some 8
  | .distsymShort9 => some 9
  | .distsymShort10 => some 10
  | .distsymShort11 => some 11
  | .distsymShort12 => some 12
  | .distsymShort13 => some 13
  | .distsymShort14 => some 14
  | .distsymShort15 => some 15
  | _ => none

/-- R112: the stream bits of an element of format `fmt` and their number, first bit in bit 0; none where `i` is not an
element of that format, or a field value does not fit, or the table has no codeword for the symbol. -/
def encode (fmt : ElemFmt) (i : Instr) : Option (Nat × Nat) :=
  match fmt with
  | .islast => match i with | .islast v => encodeFlag v | _ => none
  | .isempty => match i with | .isempty v => encodeFlag v | _ => none
  | .mnibbles => match i with | .mnibbles n => encodeField 2 n | _ => none
  | .mlenNibble => match i with | .mlenNibble d => encodeField 4 d | _ => none
  | .isuncompressed => match i with | .isuncompressed v => encodeFlag v | _ => none
  | .pad n => match i with | .pad m x => if m = n then encodeField n x else none | _ => none
  | .rawbyte => match i with | .rawbyte b => encodeField 8 b.toNat | _ => none
  | .varlen8 =>
    match i with
    | .varlen8Zero => some (0, 1)
    | .varlen8One => some (1, 4)
    | .varlen8N n x => if 1 ≤ n ∧ n < 8 ∧ x < 2 ^ n then some (1 + 2 * n + 16 * x, 4 + n) else none
    | _ => none
  | .nbltypes => match i with | .nbltypes v => encodeVarlen8 v | _ => none
  | .blenFirst t =>
    match i with
    | .blenFirst k x => if k < 26 then encodeExtra t k (blenBits k) x else none
    | _ => none
  | .npostfix => match i with | .npostfix p => encodeField 2 p | _ => none
  | .ndirectHi => match i with | .ndirectHi d => encodeField 4 d | _ => none
  | .cmode => (cmodeValue i).bind (encodeField 2)
  | .ntrees => match i with | .ntrees v => encodeVarlen8 v | _ => none
  | .rleflag => match i with | .rleflag v => encodeFlag v | _ => none
  | .rlemax => match i with | .rlemax m => encodeField 4 m | _ => none
  | .cmsym t mrlp =>
    match i with
    | .cmsymZero => encodeSym t 0
    | .cmsymRun k => if 1 ≤ k ∧ k ≤ mrlp then encodeSym t k else none
    | .cmsymTree k => if mrlp < k then encodeSym t k else none
    | _ => none
  | .cmrun k => match i with | .cmrun j x => if j = k then encodeField k x else none | _ => none
  | .imtf => match i with | .imtf v => encodeFlag v | _ => none
  | .hskip => (hskipValue i).bind (encodeField 2)
  | .nsym => match i with | .nsym n => encodeField 2 n | _ => none
  | .simpleSym n => match i with | .simpleSym m v => if m = n then encodeField n v else none | _ => none
  | .treeSelect => match i with | .treeSelect v => encodeFlag v | _ => none
  | .clcl =>
    match clclValue i with
    | some 0 => some (0b00, 2)
    | some 1 => some (0b0111, 4)
    | some 2 => some (0b011, 3)
    | some 3 => some (0b10, 2)
    | some 4 => some (0b01, 2)
    | some 5 => some (0b1111, 4)
    | _ => none
  | .clsym t => (clsymValue i).bind (encodeSym t)
  | .clrep16 => match i with | .clrepExtra16 x => encodeField 2 x | _ => none
  | .clrep17 => match i with | .clrepExtra17 x => encodeField 3 x | _ => none
  | .btsym t =>
    match i with
    | .btsymPrev => encodeSym t 0
    | .btsymNext => encodeSym t 1
    | .btsymExplicit k => if 2 ≤ k then encodeSym t k else none
    | _ => none
  | .blen t => (blenValue i).bind fun p => encodeExtra t p.1 (blenBits p.1) p.2
  | .cmdsym t =>
    (cmdsymParts i).bind fun p =>
      if p.2.1 < 8 ∧ p.2.2 < 8 then encodeSym t (64 * p.1 + 8 * p.2.1 + p.2.2) else none
  | .ins k => (insValue i).bind fun p => if p.1 = k then encodeField (insBits k) p.2 else none
  | .cpy k => (cpyValue i).bind fun p => if p.1 = k then encodeField (cpyBits k) p.2 else none
  | .literal t => match i with | .literal b => encodeSym t b.toNat | _ => none
  | .distsym t nd =>
    match i with
    | .distsymDirect c => if 16 ≤ c ∧ c < nd then encodeSym t c else none
    | .distsymLong c => if 16 ≤ c ∧ nd ≤ c then encodeSym t c else none
    | j => (shortValue j).bind (encodeSym t)
  | .distExtra nb => match i with | .distExtra m x => if m = nb then encodeField nb x else none | _ => none

/-- R154, R155: a table whose entries are replicated as the builder replicates them: an entry that consumes `bits` bits
stands at every index with the same low `bits` bits. -/
def Table.Replicated (t : Table) : Prop :=
  (∀ k, k < 2 ^ t.rootBits → ∀ bits sym, t.entries[k]? = some (.terminal bits sym) →
    bits ≤ t.rootBits ∧
      ∀ j, j < 2 ^ t.rootBits → j % 2 ^ bits = k % 2 ^ bits → t.entries[j]? = some (.terminal bits sym)) ∧
  (∀ k, k < 2 ^ t.rootBits → ∀ subBits base, t.entries[k]? = some (.redirect subBits base) →
    ∀ j, j < 2 ^ subBits → ∀ bits sym, t.entries[base + j]? = some (.terminal bits sym) →
      bits ≤ subBits ∧
        ∀ h, h < 2 ^ subBits → h % 2 ^ bits = j % 2 ^ bits → t.entries[base + h]? = some (.terminal bits sym))

/-- The tables that a format decodes with. -/
def ElemFmt.table? : ElemFmt → Option Table
  | .blenFirst t | .cmsym t _ | .clsym t | .btsym t | .blen t | .cmdsym t | .literal t | .distsym t _ => some t
  | _ => none

/-! ## Operation, host and state numbers (R113, R26, R12) -/

/-- R113: the operation number `unit.fn`; none for a row that is not an operation. -/
def opNumber : Instr → Option Nat
  | .brFill => some 0
  | .brPeek _ => some 1
  | .brDrop _ => some 2
  | .brRead _ => some 3
  | .brAlign => some 4
  | .brByte => some 5
  | .htBuild _ _ _ => some 8
  | .hdSym _ => some 16
  | .hdReadcode _ => some 17
  | .hdSimple _ => some 18
  | .hdComplex _ _ => some 19
  | .cmDecode _ => some 24
  | .cmImtf => some 25
  | .rbPut _ => some 32
  | .rbGet _ => some 33
  | .rbCopy _ _ => some 34
  | .rbFlush => some 35
  | .sdLookup _ _ => some 40
  | .sdTransform _ _ => some 41
  | .opStart => some 56
  | .opAbort => some 57
  | .opSizeq => some 58
  | _ => none

/-- R113: the operation of a number, with its operands zero (the number carries no operand). -/
def opOfNumber : Nat → Option Instr
  | 0 => some (.brFill)
  | 1 => some (.brPeek 0)
  | 2 => some (.brDrop 0)
  | 3 => some (.brRead 0)
  | 4 => some (.brAlign)
  | 5 => some (.brByte)
  | 8 => some (.htBuild .len 0 0)
  | 16 => some (.hdSym .clc)
  | 17 => some (.hdReadcode 0)
  | 18 => some (.hdSimple 0)
  | 19 => some (.hdComplex 0 0)
  | 24 => some (.cmDecode 0)
  | 25 => some (.cmImtf)
  | 32 => some (.rbPut 0)
  | 33 => some (.rbGet 0)
  | 34 => some (.rbCopy 0 0)
  | 35 => some (.rbFlush)
  | 40 => some (.sdLookup 0 0)
  | 41 => some (.sdTransform [] 0)
  | 56 => some (.opStart)
  | 57 => some (.opAbort)
  | 58 => some (.opSizeq)
  | _ => none

/-- R26: the command written to `CTRL`; other values are ignored. -/
def ctrlOfNumber : Nat → Option Instr
  | 1 => some .ctrlStart
  | 2 => some .ctrlAbort
  | 3 => some .ctrlSizeq
  | _ => none

/-- R12: the visit of the sequencer state of a code; 20 .. 31 are reserved (R282). -/
def stateOfNumber : Nat → Option Instr
  | 0 => some .cdIdle
  | 1 => some .cdMbBegin
  | 2 => some .cdMbHeader
  | 3 => some .cdUncompressedCopy
  | 4 => some .cdHdrBlocks
  | 5 => some .cdHdrDistparams
  | 6 => some .cdHdrCtxmodes
  | 7 => some .cdHdrCmapL
  | 8 => some .cdHdrCmapD
  | 9 => some .cdHdrTrees
  | 10 => some .cdCmdBegin
  | 11 => some .cdCmdLiteral
  | 12 => some .cdCmdDistance
  | 13 => some .cdCmdCopyWindow
  | 14 => some .cdCmdCopyDict
  | 15 => some .cdCmdEnd
  | 16 => some .cdMbDone
  | 17 => some .cdFlush
  | 18 => some .cdFinished
  | 19 => some .cdError
  | _ => none

/-- R12: the code of a sequencer state. -/
def stateNumber : Instr → Option Nat
  | .cdIdle => some 0
  | .cdMbBegin => some 1
  | .cdMbHeader => some 2
  | .cdUncompressedCopy => some 3
  | .cdHdrBlocks => some 4
  | .cdHdrDistparams => some 5
  | .cdHdrCtxmodes => some 6
  | .cdHdrCmapL => some 7
  | .cdHdrCmapD => some 8
  | .cdHdrTrees => some 9
  | .cdCmdBegin => some 10
  | .cdCmdLiteral => some 11
  | .cdCmdDistance => some 12
  | .cdCmdCopyWindow => some 13
  | .cdCmdCopyDict => some 14
  | .cdCmdEnd => some 15
  | .cdMbDone => some 16
  | .cdFlush => some 17
  | .cdFinished => some 18
  | .cdError => some 19
  | _ => none

/-- The first answer of two. -/
def orElseInstr (a b : Option Instr) : Option Instr :=
  match a with
  | some i => some i
  | none => b

/-- R112: the instruction of a word of spec/opcode_table.json. The table's words overlap: "nothing in the block decodes
them", a symbol's pattern is over the decoded symbol value and the alphabet comes from the place in the grammar, and one
word is a pattern of several rows. Where more than one row matches, the order here decides (notes/assumptions/8.md): one
byte, operation numbers, then state codes, then code-length symbols, then block length codes; two bytes, short distance
codes, then block length codes, then command symbols; three bytes, state codes; four bytes, block length codes. -/
def decodeTableWord (nbits w : Nat) : Option Instr :=
  if nbits ≤ 8 then
    orElseInstr (opOfNumber w) (orElseInstr (stateOfNumber w) (orElseInstr (clsymInstr w) (blenInstr (w % 32) (w / 32))))
  else if nbits ≤ 16 then
    orElseInstr (shortInstr w) (if 20 ≤ w ∧ w < 26 then blenInstr w 0 else cmdsymInstr w)
  else if nbits ≤ 24 then stateOfNumber (w % 32)
  else blenInstr (w % 32) (w / 32 % 2 ^ blenBits (w % 32))

end Sys2Proof
end

