-- ==== Sys2Proof/Machine/Operands.lean ====
section
/-! DEFINITION. The operand forms of the stream: which format the element expected next has (30_encoding.md R91 to R97), with the
table, width or category its decoding depends on (R107, R115), and the fetch of an element. -/

namespace Sys2Proof.Machine

/-- R262, R263: `literal_context(mode, p1, p2)`, the context tables being arguments. -/
def literalContext (p : Config.Params) (mode : Nat) (p1 p2 : Byte) : Nat :=
  match mode with
  | 0 => p1.toNat % 64
  | 1 => p1.toNat / 4
  | 2 => p.ctxLut0.getD p1.toNat 0 ||| p.ctxLut1.getD p2.toNat 0
  | _ => (p.ctxLut2.getD p1.toNat 0 <<< 3) ||| p.ctxLut2.getD p2.toNat 0

/-- R260: the table of the next literal, `TG.L[CMAP_L[64*bt + ctx]]`. -/
def State.literalTable (s : State) : Option Table :=
  match s.mb.cmode[s.blk.lit.cur]? with
  | none => none
  | some mode =>
    match s.cm.mapL[64 * s.blk.lit.cur + literalContext s.par mode s.rb.p1 s.rb.p2]? with
    | none => none
    | some tree => lookupTable s.ht (.tgL tree.toNat)

/-- R264: the distance context, copy length 2, 3, 4, 5 and up to 0, 1, 2, 3. -/
def distContext (cpy : Nat) : Nat := if 4 < cpy then 3 else cpy - 2

/-- R264: the table of the next distance symbol, `TG.D[CMAP_D[4*BT_CUR[D] + dctx]]`. -/
def State.distTable (s : State) : Option Table :=
  match s.cm.mapD[4 * s.blk.dist.cur + distContext s.cmd.cpy]? with
  | none => none
  | some tree => lookupTable s.ht (.tgD tree.toNat)

/-- R137: the number of bits to the next byte boundary. -/
def padBits (cur : Nat) : Nat := (8 - cur % 8) % 8

/-- R265: `h` of a long distance symbol. -/
def longH (s : State) (c : Nat) : Nat := (c - s.mb.numdirect) / 2 ^ s.mb.npostfix

/-- R265: the number of extra bits of a long distance symbol. -/
def longBits (s : State) (c : Nat) : Nat := longH s c / 2 + 1

/-- R265: the distance code of a long distance symbol with extra bits `x`. -/
def longCode (s : State) (c x : Nat) : Nat :=
  let postfixBits := (c - s.mb.numdirect) % 2 ^ s.mb.npostfix
  let off := ((2 + longH s c % 2) <<< longBits s c) - 4
  s.mb.numdirect + ((off + x) <<< s.mb.npostfix) + postfixBits

/-- R92: the format of the element `k` in a state; none where the table it needs is not valid. -/
def State.elemFmt (s : State) : Elem → Option ElemFmt
  | .islast => some .islast
  | .isempty => some .isempty
  | .mnibbles => some .mnibbles
  | .mlenNibble => some .mlenNibble
  | .isuncompressed => some .isuncompressed
  | .pad => some (.pad (padBits s.br.cur))
  | .rawbyte => some .rawbyte
  | .varlen8 => some .varlen8
  | .nbltypes => some .nbltypes
  | .blenFirst => (lookupTable s.ht (.bl s.visit.cat)).map .blenFirst
  | .npostfix => some .npostfix
  | .ndirectHi => some .ndirectHi
  | .cmode => some .cmode
  | .ntrees => some .ntrees
  | .rleflag => some .rleflag
  | .rlemax => some .rlemax
  | .cmsym => (lookupTable s.ht .cm).map fun t => .cmsym t s.cm.mrlp
  | .cmrun => some (.cmrun s.cm.k)
  | .imtf => some .imtf
  | .hskip => some .hskip
  | .nsym => some .nsym
  | .simpleSym => some (.simpleSym (bitlen (s.hd.a - 1)))
  | .treeSelect => some .treeSelect
  | .clcl => some .clcl
  | .clsym => (lookupTable s.ht .clc).map .clsym
  | .clrep16 => some .clrep16
  | .clrep17 => some .clrep17
  | .btsym => (lookupTable s.ht (.bt s.visit.cat)).map .btsym
  | .blen => (lookupTable s.ht (.bl s.visit.cat)).map .blen
  | .cmdsym => (lookupTable s.ht (.tgI s.blk.cmd.cur)).map .cmdsym
  | .ins => some (.ins s.visit.insCode)
  | .cpy => some (.cpy s.visit.cpyCode)
  | .literal => s.literalTable.map .literal
  | .distsym => s.distTable.map fun t => .distsym t s.mb.numdirect
  | .distExtra => some (.distExtra (longBits s s.visit.dsym))

/-- R133: how many stream bits a fetch hands to the decoder, zeros past the end. No element has more (R91, R249). -/
def fetchBits : Nat := 64

/-- What the fetch of an element answers. -/
inductive Fetched where
  /-- the instruction, and the bit reader after its bits -/
  | ok (i : Instr) (b : BitReader)
  /-- held on input (R131) -/
  | hold
  /-- `raise`, with the bit reader at the first bit not consumed (R307) -/
  | fail (k : ErrKind) (b : BitReader)
  /-- the table is not valid -/
  | bad
  deriving DecidableEq, Repr

/-- R112: read at the cursor the element the grammar names, with the format of its row. -/
def State.fetch (s : State) (k : Elem) : Fetched :=
  match s.elemFmt k with
  | none => .bad
  | some fmt =>
    match decodeElem fmt (s.br.peek fetchBits) with
    | none => .bad
    | some (i, fs) =>
      match BitReader.takeAll s.par s.br fs with
      | .ok b => .ok i b
      | .hold => .hold
      | .fail k b => .fail k b

/-- R166: `HD.SYM(t)` as an operation: the symbol, and what its reads answer. -/
def State.readSym (s : State) (t : Table) : Option (Nat × Taken) :=
  match lookupSym t (s.br.peek fetchBits) with
  | none => none
  | some (sym, fs) => some (sym, BitReader.takeAll s.par s.br fs)

/-- R16, R150: the code lengths that `HT.BUILD` is given. -/
def State.lensOf (s : State) (src : LenSrc) (a : Nat) : List Nat :=
  match src with
  | .len => s.hd.len.take a
  | .clcl => s.hd.clcl.take a

end Sys2Proof.Machine
end

