-- ==== Sys2Proof/Machine/Distance.lean ====
section
/-! DEFINITION. Distances (46_command_decoder.md R264 to R269, 30_encoding.md R109) and what follows them. -/

namespace Sys2Proof.Machine

/-- R109, R266: short distance code 0. -/
def execDistsymShort0 (s : State) : Result := .next (s.resolveCode 0)

/-- R109, R266: short distance code 1. -/
def execDistsymShort1 (s : State) : Result := .next (s.resolveCode 1)

/-- R109, R266: short distance code 2. -/
def execDistsymShort2 (s : State) : Result := .next (s.resolveCode 2)

/-- R109, R266: short distance code 3. -/
def execDistsymShort3 (s : State) : Result := .next (s.resolveCode 3)

/-- R109, R266: short distance code 4. -/
def execDistsymShort4 (s : State) : Result := .next (s.resolveCode 4)

/-- R109, R266: short distance code 5. -/
def execDistsymShort5 (s : State) : Result := .next (s.resolveCode 5)

/-- R109, R266: short distance code 6. -/
def execDistsymShort6 (s : State) : Result := .next (s.resolveCode 6)

/-- R109, R266: short distance code 7. -/
def execDistsymShort7 (s : State) : Result := .next (s.resolveCode 7)

/-- R109, R266: short distance code 8. -/
def execDistsymShort8 (s : State) : Result := .next (s.resolveCode 8)

/-- R109, R266: short distance code 9. -/
def execDistsymShort9 (s : State) : Result := .next (s.resolveCode 9)

/-- R109, R266: short distance code 10. -/
def execDistsymShort10 (s : State) : Result := .next (s.resolveCode 10)

/-- R109, R266: short distance code 11. -/
def execDistsymShort11 (s : State) : Result := .next (s.resolveCode 11)

/-- R109, R266: short distance code 12. -/
def execDistsymShort12 (s : State) : Result := .next (s.resolveCode 12)

/-- R109, R266: short distance code 13. -/
def execDistsymShort13 (s : State) : Result := .next (s.resolveCode 13)

/-- R109, R266: short distance code 14. -/
def execDistsymShort14 (s : State) : Result := .next (s.resolveCode 14)

/-- R109, R266: short distance code 15. -/
def execDistsymShort15 (s : State) : Result := .next (s.resolveCode 15)

/-- R109, R266: a direct code, distance `c - 15`. -/
def execDistsymDirect (c : Nat) (s : State) : Result := .next (s.resolveCode c)

/-- R109, R265: a long symbol; its extra bits follow. -/
def execDistsymLong (c : Nat) (s : State) : Result :=
  .next (State.push [.elem .distExtra] { s with visit := { s.visit with dsym := c } })

/-- R265: the extra bits of a long symbol give the distance code, and that the distance (R266). -/
def execDistExtra (_nb x : Nat) (s : State) : Result := .next (s.resolveCode (longCode s s.visit.dsym x))

/-- R264, R266: `CMD.DIST <- resolve(CMD.DCODE)` where no distance symbol is read. -/
def State.resolve (s : State) : State := s.resolveCode s.cmd.dcode.toNat

/-- R269: the push into the distance ring, for a code that is not 0. -/
def State.pushDistance (s : State) : State := if 0 < s.cmd.dcode then { s with dr := s.dr.push s.cmd.dist } else s

/-- R264, R267: `CMD.MAXD`, then window or dictionary. -/
def State.classify (s : State) : State :=
  let t := { s with cmd := { s.cmd with maxd := s.maxDistance } }
  if t.cmd.dist ≤ t.cmd.maxd then
    if t.mb.rem < t.cmd.cpy then t.raise .invalidBackwardReference 3
    else
      let u := t.pushDistance
      State.goto .cmdCopyWindow { u with cmd := { u.cmd with cpyrem := u.cmd.cpy } }
  else t.push [.op (.sdLookup t.cmd.cpy (t.cmd.dist - t.cmd.maxd - 1)), .act .dictCheck]

/-- R273: the transformed word must fit what remains of the meta-block. -/
def State.dictCheck (s : State) : State :=
  if s.mb.rem < s.sd.outlen then s.raise .invalidBackwardReference 4 else s.goto .cmdCopyDict

/-- R270: after the put of a copied byte. -/
def State.copyDone (s : State) : State :=
  let t := { s with cmd := { s.cmd with cpyrem := s.cmd.cpyrem - 1 }, mb := { s.mb with rem := s.mb.rem - 1 } }
  if t.cmd.cpyrem = 0 then t.goto .cmdEnd else t

/-- R274: after the put of a byte of a dictionary word. -/
def State.dictDone (s : State) : State :=
  { s with sd := { s.sd with outidx := s.sd.outidx + 1 }, mb := { s.mb with rem := s.mb.rem - 1 } }

end Sys2Proof.Machine
end

