-- ==== Sys2Proof/Machine/Header.lean ====
section
/-! DEFINITION. The meta-block header elements (30_encoding.md R93, 46_command_decoder.md R238 to R241), in a decode session and
in a size query (R280), and the patterns of `VARLEN8` (R104). The bits of an element have been consumed by its fetch. -/

namespace Sys2Proof.Machine

/-- R280: `return unknown` of a size query. -/
def State.queryUnknown (s : State) : State := s.raise .sizeUnknown 0

/-- R238: the next element after `ISLAST` of a meta-block that may be the final one. -/
def afterLast (v : Bool) : List Todo := if v = true then [.elem .isempty] else [.elem .mnibbles]

/-- R238, R280: `ISLAST`. In a query after the stored bytes only an empty final block may follow. -/
def execIslast (v : Bool) (s : State) : Result :=
  if s.q = true then
    if s.visit.qTail = true then
      if v = true then .next (s.push [.elem .isempty]) else .next s.queryUnknown
    else .next (State.push (afterLast v) { s with visit := { s.visit with qLast := v } })
  else .next (State.push (afterLast v) { s with mb := { s.mb with last := v } })

/-- R238, R280: `ISEMPTY`. -/
def execIsempty (v : Bool) (s : State) : Result :=
  if s.q = true then
    if s.visit.qTail = true then
      if v = true then .next (s.queryReturn s.visit.qSize) else .next s.queryUnknown
    else if v = true then .next (s.queryReturn 0)
    else .next (s.push [.elem .mnibbles])
  else if v = true then .next (s.goto .mbDone)
  else .next (s.push [.elem .mnibbles])

/-- R238: `MNIBBLES`: `nn <- 4 + n ; len <- 0`, then `nn` nibbles. -/
def execMnibbles (n : Nat) (s : State) : Result :=
  .next (State.push (List.replicate (4 + n) (.elem .mlenNibble) ++ [.act .endLen])
    { s with visit := { s.visit with nibI := 0, lenAcc := 0 } })

/-- R105, R238: `MLEN_NIBBLE`: `len <- len | (d << (4*i))`. -/
def execMlenNibble (d : Nat) (s : State) : Result :=
  .next { s with visit := { s.visit with lenAcc := s.visit.lenAcc ||| (d <<< (4 * s.visit.nibI)), nibI := s.visit.nibI + 1 } }

/-- R238: the branch at the end of the header. -/
def State.headerBranch (s : State) : State :=
  if s.mb.uncomp = true then s.goto .uncompressedCopy else s.goto .hdrBlocks

/-- R238, R280: the end of the length nibbles. -/
def State.endLen (s : State) : State :=
  let size := s.visit.lenAcc + 1
  if s.q = true then
    let t := { s with visit := { s.visit with qSize := size } }
    if s.visit.qLast = true then t.queryReturn size else t.push [.elem .isuncompressed]
  else
    let t := { s with mb := { s.mb with rem := size } }
    if s.mb.last = false ∨ s.par.uncompFlagInFinal = true then t.push [.elem .isuncompressed] else t.headerBranch

/-- R238, R280: `ISUNCOMPRESSED`. -/
def execIsuncompressed (v : Bool) (s : State) : Result :=
  if s.q = true then
    if v = true then
      .next (State.push [.op .brAlign, .act .skipStored] { s with visit := { s.visit with qCnt := s.visit.qSize } })
    else .next s.queryUnknown
  else .next (State.headerBranch { s with mb := { s.mb with uncomp := v } })

/-- R280: `repeat size times: BR.DROP(8)`, then the header of the block that follows. -/
def State.skipStored (s : State) : State :=
  if s.visit.qCnt = 0 then State.push [.elem .islast] { s with visit := { s.visit with qTail := true } }
  else State.push [.op (.brDrop 8), .act .skipStored] { s with visit := { s.visit with qCnt := s.visit.qCnt - 1 } }

/-- R91, R137: padding is discarded whatever its value. -/
def execPad (_n _x : Nat) (s : State) : Result := .next s

/-- R241: `RB.PUT(b)`; after it the byte is counted. -/
def execRawbyte (b : Byte) (s : State) : Result := .next (s.rbPut b [.act .rawDone])

/-- R241: `MB.REM <- MB.REM - 1`, and the end of the visit. -/
def State.rawDone (s : State) : State :=
  let t := { s with mb := { s.mb with rem := s.mb.rem - 1 } }
  if t.mb.rem = 0 then t.goto .mbDone else t.goto .uncompressedCopy

/-- R104: the value of a `VARLEN8` pattern, returned to the element spelt with it. -/
def State.returnVal (v : Nat) (s : State) : State := { s with res := { s.res with val := v } }

/-- R104: pattern `0`. -/
def execVarlen8Zero (s : State) : Result := .next (s.returnVal 0)

/-- R104: pattern `1000`. -/
def execVarlen8One (s : State) : Result := .next (s.returnVal 1)

/-- R104: pattern `1nnnx*`. -/
def execVarlen8N (n x : Nat) (s : State) : Result := .next (s.returnVal (2 ^ n + x))

end Sys2Proof.Machine
end

