-- ==== Sys2Proof/Machine/Dictionary.lean ====
section
/-! DEFINITION. The static dictionary (45_static_dictionary.md): word address, transforms, and the operations `SD.LOOKUP` and
`SD.TRANSFORM`. -/

namespace Sys2Proof.Machine

/-- Change the byte at place `i` of a word by an exclusive or; a place past the end is not touched (R223). -/
def xorAt (w : List Byte) (i : Nat) (m : Byte) : List Byte := w.modify i fun b => b ^^^ m

/-- R223: `upper(w, i)`: the word with the case of the character at `i` changed, and the bytes that character takes. -/
def upper (w : List Byte) (i : Nat) : List Byte × Nat :=
  let c := (w.getD i 0).toNat
  if c < 0xC0 then (if 0x61 ≤ c ∧ c ≤ 0x7A then xorAt w i 0x20 else w, 1)
  else if c < 0xE0 then (xorAt w (i + 1) 0x20, 2)
  else (xorAt w (i + 2) 0x05, 3)

/-- R221: the loop of `UppercaseAll`, with fuel. -/
def upperAll : Nat → List Byte → Nat → List Byte
  | 0, w, _ => w
  | fuel + 1, w, i => if i < w.length then upperAll fuel (upper w i).1 (i + (upper w i).2) else w

/-- R221: the effect of a transform kind on a word. -/
def applyKind (k : XformKind) (w : List Byte) : List Byte :=
  match k with
  | .identity => w
  | .omitLast n => w.take (w.length - n)
  | .omitFirst n => w.drop n
  | .uppercaseFirst => if w.length = 0 then w else (upper w 0).1
  | .uppercaseAll => upperAll w.length w 0

/-- R222: the bytes before, the changed word, the bytes after. -/
def applyXform (x : Xform) (w : List Byte) : List Byte := x.pre ++ applyKind x.kind w ++ x.post

/-- R218: the word `idx` of length `len`, `DICT_ROM[DICT_OFF[len] + idx*len ..]`. -/
def dictWord (len idx : Nat) : List Byte :=
  (List.range len).map fun k => Config.dictRom (dictOff len + idx * len + k)

/-- R219: whether a length has a class of words. -/
def dictLength (len : Nat) : Bool :=
  decide (Config.dictMinLen ≤ len) && decide (len ≤ Config.dictMaxLen) && decide (dictBits len ≠ 0)

/-- R219: the word index, the low part of `word_id`. -/
def dictIndex (len wordId : Nat) : Nat := wordId % 2 ^ dictBits len

/-- R219: the transform index, the high part of `word_id`. -/
def dictTransform (len wordId : Nat) : Nat := wordId / 2 ^ dictBits len

/-- R219: the transformed word of a reference whose length has a class; none where the transform index is outside the table
`TRANSFORM_ROM` (an argument, R224). -/
def dictResult (rom : List Xform) (len wordId : Nat) : Option (List Byte) :=
  (rom[dictTransform len wordId]?).map fun x => applyXform x (dictWord len (dictIndex len wordId))

/-- R219: `SD.LOOKUP(len, word_id)`: the check of the length, that of the transform index against `N_TRANSFORMS`, the word. -/
def State.sdLookup (len wordId : Nat) (s : State) : State :=
  if dictLength len = false then s.raise .invalidDictionaryReference 1
  else
    match dictResult s.par.transforms len wordId with
    | some w => { s with sd := { out := w, outlen := w.length, outidx := 0 } }
    | none => s.raise .invalidDictionaryReference 2

/-- R222: `SD.TRANSFORM(word, t)`; `t < N_TRANSFORMS`. -/
def State.sdTransform (word : List Byte) (t : Nat) (s : State) : Result :=
  match (s.par.transforms[t]? : Option Xform) with
  | some x => .next { s with res := { s.res with bytes := applyXform x word } }
  | none => .fault .outsideSpace

end Sys2Proof.Machine
end

