-- ==== Sys2Proof/Machine/UnitOps.lean ====
section
/-! DEFINITION. The operations of the units BR, HT, HD, RB and SD (30_encoding.md R113). Those that read a whole description
stand in CodeReader.lean and ContextMap.lean. -/

namespace Sys2Proof.Machine

/-- R131, R306: what an operation does with the answer of its reads: go on, be held, or raise. -/
def State.onTaken (i : Instr) (t : Taken) (f : State → State) (s : State) : Result :=
  match t with
  | .ok b => .next (f { s with br := b })
  | .hold => .next (s.hold i)
  | .fail k b => .next (State.raise k 0 { s with br := b })

/-- R132: `BR.FILL`; it waits until the register can be filled. While it is held, and where it raises, it has shifted in nothing:
R132 does not place `need` inside its loops (DESIGN CHOICE, notes/assumptions/13.md). -/
def execBrFill (s : State) : Result :=
  if s.br.fill.filled = true then .next { s with br := s.br.fill }
  else if s.br.srcErr = true then .next (s.raise .sourceFailed 0)
  else .next (s.hold .brFill)

/-- R134: `BR.PEEK(n)`. An operand above `N_MAX_READ`, which R136 says no rule requests, runs in the same
way (DESIGN CHOICE, notes/assumptions/34.md). -/
def execBrPeek (n : Nat) (s : State) : Result :=
  match s.br.need s.par n with
  | .ready => .next { s with res := { s.res with val := s.br.peek n } }
  | .hold => .next (s.hold (.brPeek n))
  | .failed => .next (s.raise .sourceFailed 0)

/-- R135: `BR.DROP(n)`. An operand above `N_MAX_READ`, which R136 says no rule requests, runs in the same
way (DESIGN CHOICE, notes/assumptions/34.md). -/
def execBrDrop (n : Nat) (s : State) : Result := s.onTaken (.brDrop n) (s.br.take s.par ⟨n, n⟩) id

/-- R136: the value of a read is the peek before it. -/
def State.returnPeek (v : Nat) (s : State) : State := { s with res := { s.res with val := v } }

/-- R136: `BR.READ(n)`. An operand above `N_MAX_READ`, which R136 says no rule requests, runs in the same
way (DESIGN CHOICE, notes/assumptions/34.md). -/
def execBrRead (n : Nat) (s : State) : Result :=
  s.onTaken (.brRead n) (s.br.take s.par ⟨n, n⟩) (State.returnPeek (s.br.peek n))

/-- R137: `BR.ALIGN()`. -/
def execBrAlign (s : State) : Result :=
  s.onTaken .brAlign (s.br.take s.par ⟨padBits s.br.cur, padBits s.br.cur⟩) id

/-- R138: `BR.BYTE()`; at a cursor that is not aligned, outside the precondition, it is `BR.READ(8)` as well (DESIGN CHOICE,
notes/assumptions/34.md). -/
def execBrByte (s : State) : Result :=
  s.onTaken .brByte (s.br.take s.par ⟨8, 8⟩) (State.returnPeek (s.br.peek 8))

/-- R150: `HT.BUILD(len, a, R)`; on a fault no table becomes valid. Operands outside the range of the rule run in the same way
(DESIGN CHOICE, notes/assumptions/34.md). -/
def execHtBuild (src : LenSrc) (a r : Nat) (s : State) : Result :=
  match buildTable (s.lensOf src a) r with
  | .ok t => .next { s with ht := { s.ht with out := some t } }
  | .error e => .next (s.raise .malformedHuffman e)

/-- R15, R190: the table that the last `HT.BUILD` returned becomes the valid table of a name. -/
def State.storeBuilt (r : TableRef) (s : State) : Result :=
  match s.ht.out with
  | some t => .next { s with ht := storeTable s.ht r t }
  | none => .fault .invalidTable

/-- R166: `HD.SYM(t)`. -/
def execHdSym (r : TableRef) (s : State) : Result :=
  match lookupTable s.ht r with
  | none => .fault .invalidTable
  | some t =>
    match s.readSym t with
    | none => .fault .invalidTable
    | some (sym, taken) => s.onTaken (.hdSym r) taken (State.returnPeek sym)

/-- R199: `RB.PUT(b)`. -/
def execRbPut (b : Byte) (s : State) : Result := .next (s.rbPut b [])

/-- R200: `RB.GET(d)`. -/
def execRbGet (d : Nat) (s : State) : Result :=
  match s.rbGet d with
  | .byte b => .next (s.returnPeek b.toNat)
  | .stop f => .fault f

/-- R201: `RB.COPY(d, n)`: one byte, then the rest of the copy. -/
def execRbCopy (d n : Nat) (s : State) : Result :=
  match n with
  | 0 => .next s
  | m + 1 =>
    match s.rbGet d with
    | .byte b => .next (s.rbPut b [.op (.rbCopy d m)])
    | .stop f => .fault f

/-- R203, R204: `RB.FLUSH`. -/
def execRbFlush (s : State) : Result := .next s.rbFlush

/-- R219: `SD.LOOKUP(len, word_id)`. -/
def execSdLookup (len wordId : Nat) (s : State) : Result := .next (s.sdLookup len wordId)

/-- R222: `SD.TRANSFORM(word, t)`. -/
def execSdTransform (word : List Byte) (t : Nat) (s : State) : Result := s.sdTransform word t

end Sys2Proof.Machine
end

