-- ==== Sys2Proof/Machine/Acts.lean ====
section
/-! DEFINITION. The statements of a visit that are neither stream elements nor unit operations (46_command_decoder.md R284). -/

namespace Sys2Proof.Machine

/-- One statement of a visit. -/
def runAct (m : Act) (s : State) : Result :=
  match m with
  | .toDistparams => .next (s.goto .hdrDistparams)
  | .toCtxmodes => .next (s.goto .hdrCtxmodes)
  | .toCmapL => .next (s.goto .hdrCmapL)
  | .toCmdBegin => .next (s.goto .cmdBegin)
  | .toFinished => .next (s.goto .finished)
  | .endLen => .next s.endLen
  | .skipStored => .next s.skipStored
  | .rawDone => .next s.rawDone
  | .beginCat c => .next (s.beginCat c)
  | .store r => s.storeBuilt r
  | .simpleCheck => .next s.simpleCheck
  | .clclLoop => .next s.clclLoop
  | .clsymStart => .next s.clsymStart
  | .clsymLoop => .next s.clsymLoop
  | .cmLoop => .next s.cmLoop
  | .cmEndL => .next s.endMapL
  | .cmEndD => .next s.endMapD
  | .tick c => .next (s.tick c)
  | .tickDown c => .next (s.tickDown c)
  | .cmdHeaderEnd => .next s.cmdHeaderEnd
  | .litDone => .next s.litDone
  | .resolve => .next s.resolve
  | .classify => .next s.classify
  | .copyDone => .next s.copyDone
  | .dictCheck => .next s.dictCheck
  | .dictDone => .next s.dictDone

end Sys2Proof.Machine
end

