-- ==== Sys2Proof/Machine/Session.lean ====
section
/-! DEFINITION. Session control: the operations `START`, `ABORT`, `SIZEQ` (46_command_decoder.md R235, R236, R280) and the host
writes to `CTRL` that issue them (10_state.md R26). -/

namespace Sys2Proof.Machine

/-- R235: `START`. -/
def execOpStart (s : State) : Result := .next s.start

/-- R236: `ABORT`. -/
def execOpAbort (s : State) : Result := .next s.abort

/-- R280: `SIZEQ`. -/
def execOpSizeq (s : State) : Result := .next s.sizeq

/-- R26, R235: host write of 1 to `CTRL`. -/
def execCtrlStart (s : State) : Result := .next s.start

/-- R26, R236: host write of 2 to `CTRL`. -/
def execCtrlAbort (s : State) : Result := .next s.abort

/-- R26, R280: host write of 3 to `CTRL`. -/
def execCtrlSizeq (s : State) : Result := .next s.sizeq

end Sys2Proof.Machine
end

