-- ==== Sys2Proof/Machine/States.lean ====
section
/-! DEFINITION. The sequencer states (46_command_decoder.md R235 to R280): a visit of a state puts the items of its
pseudocode on the agenda, in order (R284). -/

namespace Sys2Proof.Machine

/-- R235: `IDLE` has no step of DEC; it waits for the host. -/
def execCdIdle (s : State) : Result := .next s

/-- R237: `MB_BEGIN`. R21 gives `CMODE` no value here: each entry becomes a free value (DESIGN CHOICE, notes/assumptions/33.md). -/
def execCdMbBegin (s : State) : Result :=
  .next (State.goto .mbHeader
    { s with
      mb := { MetaBlock.reset with cmode := (List.range 256).map fun k => (Config.freeMode s.free k).toNat }
      blk := blkReset
      ht := TableRam.none
      cm := { s.cm with mapL := [], mapD := [] }
      free := s.free + 1 })

/-- R238, R280: `MB_HEADER`, the header of a meta-block or the whole of a size query. -/
def execCdMbHeader (s : State) : Result := .next (s.push [.elem .islast])

/-- R241: `UNCOMPRESSED_COPY`: align where the cursor is not yet at a byte boundary, then one byte a visit. -/
def execCdUncompressedCopy (s : State) : Result :=
  if s.br.cur % 8 = 0 then .next (s.push [.elem .rawbyte]) else .next (s.push [.elem .pad, .elem .rawbyte])

/-- R243: `HDR_BLOCKS`. -/
def execCdHdrBlocks (s : State) : Result :=
  .next (s.push [.act (.beginCat .lit), .act (.beginCat .cmd), .act (.beginCat .dist), .act .toDistparams])

/-- R244: `HDR_DISTPARAMS`. -/
def execCdHdrDistparams (s : State) : Result :=
  .next (s.push [.elem .npostfix, .elem .ndirectHi, .act .toCtxmodes])

/-- R245: `HDR_CTXMODES`. -/
def execCdHdrCtxmodes (s : State) : Result :=
  .next (State.push (List.replicate s.blk.lit.nbt (.elem .cmode) ++ [.act .toCmapL])
    { s with visit := { s.visit with ctxI := 0 } })

/-- R253: `HDR_CMAP_L`. -/
def execCdHdrCmapL (s : State) : Result := .next (s.push [.op (.cmDecode (64 * s.blk.lit.nbt)), .act .cmEndL])

/-- R254: `HDR_CMAP_D`. -/
def execCdHdrCmapD (s : State) : Result := .next (s.push [.op (.cmDecode (4 * s.blk.dist.nbt)), .act .cmEndD])

/-- R255: read `n` codes of alphabet size `a` into a tree group. -/
def readGroup (n a : Nat) (r : Nat → TableRef) : List Todo :=
  (List.range n).flatMap fun i => [.op (.hdReadcode a), .act (.store (r i))]

/-- R255: `HDR_TREES`. -/
def execCdHdrTrees (s : State) : Result :=
  .next (s.push (readGroup s.mb.ntreesL 256 .tgL ++ readGroup s.blk.cmd.nbt 704 .tgI ++
    readGroup s.mb.ntreesD s.mb.ndist .tgD ++ [.act .toCmdBegin]))

/-- R257: `CMD_BEGIN`. -/
def execCdCmdBegin (s : State) : Result := .next (s.push [.act (.tick .cmd), .elem .cmdsym])

/-- R260, R259: `CMD_LITERAL`. -/
def execCdCmdLiteral (s : State) : Result :=
  if s.cmd.ins = 0 then
    if s.mb.rem = 0 ∨ s.cmd.cpy = 0 then .next (s.goto .cmdEnd) else .next (s.goto .cmdDistance)
  else .next (s.push [.act (.tick .lit), .elem .literal])

/-- R264: `CMD_DISTANCE`: with an explicit distance a symbol is read, else the code is resolved as it is. -/
def execCdCmdDistance (s : State) : Result :=
  if s.cmd.dcode = -1 then .next (s.push [.act (.tick .dist), .elem .distsym, .act .classify])
  else .next (s.push [.act .resolve, .act .classify])

/-- R270: `CMD_COPY_WINDOW`: `RB.PUT(RB.GET(CMD.DIST))`. -/
def execCdCmdCopyWindow (s : State) : Result :=
  match s.rbGet s.cmd.dist with
  | .byte b => .next (s.rbPut b [.act .copyDone])
  | .stop f => .fault f

/-- R274: `CMD_COPY_DICT`: `RB.PUT(SD.OUT[SD.OUTIDX])`. -/
def execCdCmdCopyDict (s : State) : Result :=
  if s.sd.outidx = s.sd.outlen then .next (s.goto .cmdEnd)
  else
    match s.sd.out[s.sd.outidx]? with
    | some b => .next (s.rbPut b [.act .dictDone])
    | none => .fault .outsideSpace

/-- R275: `CMD_END`. -/
def execCdCmdEnd (s : State) : Result :=
  if 0 < s.mb.rem then .next (s.goto .cmdBegin) else .next (s.goto .mbDone)

/-- R277: `MB_DONE`. -/
def execCdMbDone (s : State) : Result := if s.mb.last = true then .next (s.goto .flush) else .next (s.goto .mbBegin)

/-- R278: `FLUSH`: the final flush, then `FINISHED`. -/
def execCdFlush (s : State) : Result := .next (s.push [.op .rbFlush, .act .toFinished])

/-- R279: `FINISHED` has no step of DEC; it waits for the host. -/
def execCdFinished (s : State) : Result := .next s

/-- R306: `ERROR` has no step of DEC; it is left by the host alone. -/
def execCdError (s : State) : Result := .next s

end Sys2Proof.Machine
end

