-- ==== Sys2Proof/Machine/Dispatch.lean ====
section
/-! DEFINITION. One arm per instruction: a direct call of its meaning. -/

namespace Sys2Proof.Machine

def exec (i : Instr) (s : State) : Host.Outcome State Fault Refusal :=
  match i with
  | .islast v => Sys2Proof.Machine.execIslast v s
  | .isempty v => Sys2Proof.Machine.execIsempty v s
  | .mnibbles n => Sys2Proof.Machine.execMnibbles n s
  | .mlenNibble d => Sys2Proof.Machine.execMlenNibble d s
  | .isuncompressed v => Sys2Proof.Machine.execIsuncompressed v s
  | .pad n x => Sys2Proof.Machine.execPad n x s
  | .rawbyte b => Sys2Proof.Machine.execRawbyte b s
  | .varlen8Zero => Sys2Proof.Machine.execVarlen8Zero s
  | .varlen8One => Sys2Proof.Machine.execVarlen8One s
  | .varlen8N n x => Sys2Proof.Machine.execVarlen8N n x s
  | .nbltypes v => Sys2Proof.Machine.execNbltypes v s
  | .blenFirst code x => Sys2Proof.Machine.execBlenFirst code x s
  | .npostfix p => Sys2Proof.Machine.execNpostfix p s
  | .ndirectHi d => Sys2Proof.Machine.execNdirectHi d s
  | .cmodeLsb6 => Sys2Proof.Machine.execCmodeLsb6 s
  | .cmodeMsb6 => Sys2Proof.Machine.execCmodeMsb6 s
  | .cmodeUtf8 => Sys2Proof.Machine.execCmodeUtf8 s
  | .cmodeSigned => Sys2Proof.Machine.execCmodeSigned s
  | .ntrees v => Sys2Proof.Machine.execNtrees v s
  | .rleflag v => Sys2Proof.Machine.execRleflag v s
  | .rlemax m => Sys2Proof.Machine.execRlemax m s
  | .cmsymZero => Sys2Proof.Machine.execCmsymZero s
  | .cmsymRun k => Sys2Proof.Machine.execCmsymRun k s
  | .cmsymTree k => Sys2Proof.Machine.execCmsymTree k s
  | .cmrun k x => Sys2Proof.Machine.execCmrun k x s
  | .imtf v => Sys2Proof.Machine.execImtf v s
  | .hskipSimple => Sys2Proof.Machine.execHskipSimple s
  | .hskipComplex0 => Sys2Proof.Machine.execHskipComplex0 s
  | .hskipComplex2 => Sys2Proof.Machine.execHskipComplex2 s
  | .hskipComplex3 => Sys2Proof.Machine.execHskipComplex3 s
  | .nsym n => Sys2Proof.Machine.execNsym n s
  | .simpleSym w v => Sys2Proof.Machine.execSimpleSym w v s
  | .treeSelect t => Sys2Proof.Machine.execTreeSelect t s
  | .clcl0 => Sys2Proof.Machine.execClcl0 s
  | .clcl3 => Sys2Proof.Machine.execClcl3 s
  | .clcl4 => Sys2Proof.Machine.execClcl4 s
  | .clcl2 => Sys2Proof.Machine.execClcl2 s
  | .clcl1 => Sys2Proof.Machine.execClcl1 s
  | .clcl5 => Sys2Proof.Machine.execClcl5 s
  | .clsymLen0 => Sys2Proof.Machine.execClsymLen0 s
  | .clsymLen1 => Sys2Proof.Machine.execClsymLen1 s
  | .clsymLen2 => Sys2Proof.Machine.execClsymLen2 s
  | .clsymLen3 => Sys2Proof.Machine.execClsymLen3 s
  | .clsymLen4 => Sys2Proof.Machine.execClsymLen4 s
  | .clsymLen5 => Sys2Proof.Machine.execClsymLen5 s
  | .clsymLen6 => Sys2Proof.Machine.execClsymLen6 s
  | .clsymLen7 => Sys2Proof.Machine.execClsymLen7 s
  | .clsymLen8 => Sys2Proof.Machine.execClsymLen8 s
  | .clsymLen9 => Sys2Proof.Machine.execClsymLen9 s
  | .clsymLen10 => Sys2Proof.Machine.execClsymLen10 s
  | .clsymLen11 => Sys2Proof.Machine.execClsymLen11 s
  | .clsymLen12 => Sys2Proof.Machine.execClsymLen12 s
  | .clsymLen13 => Sys2Proof.Machine.execClsymLen13 s
  | .clsymLen14 => Sys2Proof.Machine.execClsymLen14 s
  | .clsymLen15 => Sys2Proof.Machine.execClsymLen15 s
  | .clsymRepeat => Sys2Proof.Machine.execClsymRepeat s
  | .clsymZeros => Sys2Proof.Machine.execClsymZeros s
  | .clrepExtra16 x => Sys2Proof.Machine.execClrepExtra16 x s
  | .clrepExtra17 x => Sys2Proof.Machine.execClrepExtra17 x s
  | .btsymPrev => Sys2Proof.Machine.execBtsymPrev s
  | .btsymNext => Sys2Proof.Machine.execBtsymNext s
  | .btsymExplicit k => Sys2Proof.Machine.execBtsymExplicit k s
  | .blen0 x => Sys2Proof.Machine.execBlen0 x s
  | .blen1 x => Sys2Proof.Machine.execBlen1 x s
  | .blen2 x => Sys2Proof.Machine.execBlen2 x s
  | .blen3 x => Sys2Proof.Machine.execBlen3 x s
  | .blen4 x => Sys2Proof.Machine.execBlen4 x s
  | .blen5 x => Sys2Proof.Machine.execBlen5 x s
  | .blen6 x => Sys2Proof.Machine.execBlen6 x s
  | .blen7 x => Sys2Proof.Machine.execBlen7 x s
  | .blen8 x => Sys2Proof.Machine.execBlen8 x s
  | .blen9 x => Sys2Proof.Machine.execBlen9 x s
  | .blen10 x => Sys2Proof.Machine.execBlen10 x s
  | .blen11 x => Sys2Proof.Machine.execBlen11 x s
  | .blen12 x => Sys2Proof.Machine.execBlen12 x s
  | .blen13 x => Sys2Proof.Machine.execBlen13 x s
  | .blen14 x => Sys2Proof.Machine.execBlen14 x s
  | .blen15 x => Sys2Proof.Machine.execBlen15 x s
  | .blen16 x => Sys2Proof.Machine.execBlen16 x s
  | .blen17 x => Sys2Proof.Machine.execBlen17 x s
  | .blen18 x => Sys2Proof.Machine.execBlen18 x s
  | .blen19 x => Sys2Proof.Machine.execBlen19 x s
  | .blen20 x => Sys2Proof.Machine.execBlen20 x s
  | .blen21 x => Sys2Proof.Machine.execBlen21 x s
  | .blen22 x => Sys2Proof.Machine.execBlen22 x s
  | .blen23 x => Sys2Proof.Machine.execBlen23 x s
  | .blen24 x => Sys2Proof.Machine.execBlen24 x s
  | .blen25 x => Sys2Proof.Machine.execBlen25 x s
  | .cmdsymCell0 a c => Sys2Proof.Machine.execCmdsymCell0 a c s
  | .cmdsymCell1 a c => Sys2Proof.Machine.execCmdsymCell1 a c s
  | .cmdsymCell2 a c => Sys2Proof.Machine.execCmdsymCell2 a c s
  | .cmdsymCell3 a c => Sys2Proof.Machine.execCmdsymCell3 a c s
  | .cmdsymCell4 a c => Sys2Proof.Machine.execCmdsymCell4 a c s
  | .cmdsymCell5 a c => Sys2Proof.Machine.execCmdsymCell5 a c s
  | .cmdsymCell6 a c => Sys2Proof.Machine.execCmdsymCell6 a c s
  | .cmdsymCell7 a c => Sys2Proof.Machine.execCmdsymCell7 a c s
  | .cmdsymCell8 a c => Sys2Proof.Machine.execCmdsymCell8 a c s
  | .cmdsymCell9 a c => Sys2Proof.Machine.execCmdsymCell9 a c s
  | .cmdsymCell10 a c => Sys2Proof.Machine.execCmdsymCell10 a c s
  | .ins0 => Sys2Proof.Machine.execIns0 s
  | .ins1 => Sys2Proof.Machine.execIns1 s
  | .ins2 => Sys2Proof.Machine.execIns2 s
  | .ins3 => Sys2Proof.Machine.execIns3 s
  | .ins4 => Sys2Proof.Machine.execIns4 s
  | .ins5 => Sys2Proof.Machine.execIns5 s
  | .ins6 x => Sys2Proof.Machine.execIns6 x s
  | .ins7 x => Sys2Proof.Machine.execIns7 x s
  | .ins8 x => Sys2Proof.Machine.execIns8 x s
  | .ins9 x => Sys2Proof.Machine.execIns9 x s
  | .ins10 x => Sys2Proof.Machine.execIns10 x s
  | .ins11 x => Sys2Proof.Machine.execIns11 x s
  | .ins12 x => Sys2Proof.Machine.execIns12 x s
  | .ins13 x => Sys2Proof.Machine.execIns13 x s
  | .ins14 x => Sys2Proof.Machine.execIns14 x s
  | .ins15 x => Sys2Proof.Machine.execIns15 x s
  | .ins16 x => Sys2Proof.Machine.execIns16 x s
  | .ins17 x => Sys2Proof.Machine.execIns17 x s
  | .ins18 x => Sys2Proof.Machine.execIns18 x s
  | .ins19 x => Sys2Proof.Machine.execIns19 x s
  | .ins20 x => Sys2Proof.Machine.execIns20 x s
  | .ins21 x => Sys2Proof.Machine.execIns21 x s
  | .ins22 x => Sys2Proof.Machine.execIns22 x s
  | .ins23 x => Sys2Proof.Machine.execIns23 x s
  | .cpy0 => Sys2Proof.Machine.execCpy0 s
  | .cpy1 => Sys2Proof.Machine.execCpy1 s
  | .cpy2 => Sys2Proof.Machine.execCpy2 s
  | .cpy3 => Sys2Proof.Machine.execCpy3 s
  | .cpy4 => Sys2Proof.Machine.execCpy4 s
  | .cpy5 => Sys2Proof.Machine.execCpy5 s
  | .cpy6 => Sys2Proof.Machine.execCpy6 s
  | .cpy7 => Sys2Proof.Machine.execCpy7 s
  | .cpy8 x => Sys2Proof.Machine.execCpy8 x s
  | .cpy9 x => Sys2Proof.Machine.execCpy9 x s
  | .cpy10 x => Sys2Proof.Machine.execCpy10 x s
  | .cpy11 x => Sys2Proof.Machine.execCpy11 x s
  | .cpy12 x => Sys2Proof.Machine.execCpy12 x s
  | .cpy13 x => Sys2Proof.Machine.execCpy13 x s
  | .cpy14 x => Sys2Proof.Machine.execCpy14 x s
  | .cpy15 x => Sys2Proof.Machine.execCpy15 x s
  | .cpy16 x => Sys2Proof.Machine.execCpy16 x s
  | .cpy17 x => Sys2Proof.Machine.execCpy17 x s
  | .cpy18 x => Sys2Proof.Machine.execCpy18 x s
  | .cpy19 x => Sys2Proof.Machine.execCpy19 x s
  | .cpy20 x => Sys2Proof.Machine.execCpy20 x s
  | .cpy21 x => Sys2Proof.Machine.execCpy21 x s
  | .cpy22 x => Sys2Proof.Machine.execCpy22 x s
  | .cpy23 x => Sys2Proof.Machine.execCpy23 x s
  | .literal b => Sys2Proof.Machine.execLiteral b s
  | .distsymShort0 => Sys2Proof.Machine.execDistsymShort0 s
  | .distsymShort1 => Sys2Proof.Machine.execDistsymShort1 s
  | .distsymShort2 => Sys2Proof.Machine.execDistsymShort2 s
  | .distsymShort3 => Sys2Proof.Machine.execDistsymShort3 s
  | .distsymShort4 => Sys2Proof.Machine.execDistsymShort4 s
  | .distsymShort5 => Sys2Proof.Machine.execDistsymShort5 s
  | .distsymShort6 => Sys2Proof.Machine.execDistsymShort6 s
  | .distsymShort7 => Sys2Proof.Machine.execDistsymShort7 s
  | .distsymShort8 => Sys2Proof.Machine.execDistsymShort8 s
  | .distsymShort9 => Sys2Proof.Machine.execDistsymShort9 s
  | .distsymShort10 => Sys2Proof.Machine.execDistsymShort10 s
  | .distsymShort11 => Sys2Proof.Machine.execDistsymShort11 s
  | .distsymShort12 => Sys2Proof.Machine.execDistsymShort12 s
  | .distsymShort13 => Sys2Proof.Machine.execDistsymShort13 s
  | .distsymShort14 => Sys2Proof.Machine.execDistsymShort14 s
  | .distsymShort15 => Sys2Proof.Machine.execDistsymShort15 s
  | .distsymDirect c => Sys2Proof.Machine.execDistsymDirect c s
  | .distsymLong c => Sys2Proof.Machine.execDistsymLong c s
  | .distExtra nb x => Sys2Proof.Machine.execDistExtra nb x s
  | .brFill => Sys2Proof.Machine.execBrFill s
  | .brPeek n => Sys2Proof.Machine.execBrPeek n s
  | .brDrop n => Sys2Proof.Machine.execBrDrop n s
  | .brRead n => Sys2Proof.Machine.execBrRead n s
  | .brAlign => Sys2Proof.Machine.execBrAlign s
  | .brByte => Sys2Proof.Machine.execBrByte s
  | .htBuild src a r => Sys2Proof.Machine.execHtBuild src a r s
  | .hdSym t => Sys2Proof.Machine.execHdSym t s
  | .hdReadcode a => Sys2Proof.Machine.execHdReadcode a s
  | .hdSimple a => Sys2Proof.Machine.execHdSimple a s
  | .hdComplex a skip => Sys2Proof.Machine.execHdComplex a skip s
  | .cmDecode n => Sys2Proof.Machine.execCmDecode n s
  | .cmImtf => Sys2Proof.Machine.execCmImtf s
  | .rbPut b => Sys2Proof.Machine.execRbPut b s
  | .rbGet d => Sys2Proof.Machine.execRbGet d s
  | .rbCopy d n => Sys2Proof.Machine.execRbCopy d n s
  | .rbFlush => Sys2Proof.Machine.execRbFlush s
  | .sdLookup len wordId => Sys2Proof.Machine.execSdLookup len wordId s
  | .sdTransform word t => Sys2Proof.Machine.execSdTransform word t s
  | .opStart => Sys2Proof.Machine.execOpStart s
  | .opAbort => Sys2Proof.Machine.execOpAbort s
  | .opSizeq => Sys2Proof.Machine.execOpSizeq s
  | .ctrlStart => Sys2Proof.Machine.execCtrlStart s
  | .ctrlAbort => Sys2Proof.Machine.execCtrlAbort s
  | .ctrlSizeq => Sys2Proof.Machine.execCtrlSizeq s
  | .cdIdle => Sys2Proof.Machine.execCdIdle s
  | .cdMbBegin => Sys2Proof.Machine.execCdMbBegin s
  | .cdMbHeader => Sys2Proof.Machine.execCdMbHeader s
  | .cdUncompressedCopy => Sys2Proof.Machine.execCdUncompressedCopy s
  | .cdHdrBlocks => Sys2Proof.Machine.execCdHdrBlocks s
  | .cdHdrDistparams => Sys2Proof.Machine.execCdHdrDistparams s
  | .cdHdrCtxmodes => Sys2Proof.Machine.execCdHdrCtxmodes s
  | .cdHdrCmapL => Sys2Proof.Machine.execCdHdrCmapL s
  | .cdHdrCmapD => Sys2Proof.Machine.execCdHdrCmapD s
  | .cdHdrTrees => Sys2Proof.Machine.execCdHdrTrees s
  | .cdCmdBegin => Sys2Proof.Machine.execCdCmdBegin s
  | .cdCmdLiteral => Sys2Proof.Machine.execCdCmdLiteral s
  | .cdCmdDistance => Sys2Proof.Machine.execCdCmdDistance s
  | .cdCmdCopyWindow => Sys2Proof.Machine.execCdCmdCopyWindow s
  | .cdCmdCopyDict => Sys2Proof.Machine.execCdCmdCopyDict s
  | .cdCmdEnd => Sys2Proof.Machine.execCdCmdEnd s
  | .cdMbDone => Sys2Proof.Machine.execCdMbDone s
  | .cdFlush => Sys2Proof.Machine.execCdFlush s
  | .cdFinished => Sys2Proof.Machine.execCdFinished s
  | .cdError => Sys2Proof.Machine.execCdError s

end Sys2Proof.Machine
end

