-- ==== Sys2Proof/Machine/Flags.lean ====
section
/-! DEFINITION. The status the host reads. The block has no condition codes (10_state.md R23); `STATUS` and `STAT.POS` are
functions of the state (R25, 60_exceptions.md R303). -/

namespace Sys2Proof.Machine

/-- R25: the values of `STATUS`; 6 and 7 are never read. -/
inductive Status where
  | idle
  | run
  | needsInput
  | needsOutput
  | done
  | error
  deriving DecidableEq, Repr

/-- R303: DEC is at an operation that waits for input. -/
def State.opHeld (s : State) : Instr → Bool
  | .brFill => !s.br.fill.filled && !s.br.srcErr
  | .brPeek n => decide (s.br.need s.par n = .hold)
  | .brDrop n => decide (s.br.need s.par n = .hold)
  | .brRead n => decide (s.br.need s.par n = .hold)
  | .brAlign => decide (s.br.need s.par (padBits s.br.cur) = .hold)
  | .brByte => decide (s.br.need s.par 8 = .hold)
  | .hdSym t =>
    match lookupTable s.ht t with
    | none => false
    | some tab =>
      match s.readSym tab with
      | some (_, .hold) => true
      | _ => false
  | _ => false

/-- R131, R303: DEC is at a `need(n)` whose hold condition is false. -/
def State.heldOnInput (s : State) : Bool :=
  match s.todo with
  | .elem k :: _ =>
    match s.fetch k with
    | .hold => true
    | _ => false
  | .op i :: _ => s.opHeld i
  | _ => false

/-- R303: DEC is at a `SNK.PUSH` not yet answered. -/
def State.heldOnOutput (s : State) : Bool := s.snk.offer.isSome

/-- R303: `STATUS`. -/
def State.status (s : State) : Status :=
  match s.st with
  | .idle => .idle
  | .finished => .done
  | .error => .error
  | _ => if s.heldOnOutput = true then .needsOutput else if s.heldOnInput = true then .needsInput else .run

/-- R25: `STAT.POS = CD.QSIZE if CD.Q = 1 else RB.POS`. -/
def State.statPos (s : State) : Nat := if s.q = true then s.qsize else s.rb.pos

/-- R290: the code of a fault kind in `ERR.KIND`. -/
def ErrKind.code : ErrKind → Nat
  | .none => 0
  | .malformedHuffman => 1
  | .truncatedInput => 2
  | .invalidBackwardReference => 3
  | .invalidDictionaryReference => 4
  | .sinkRejectedOutput => 5
  | .sourceFailed => 6
  | .sizeUnknown => 7

/-- R25: the number of a status. -/
def Status.code : Status → Nat
  | .idle => 0
  | .run => 1
  | .needsInput => 2
  | .needsOutput => 3
  | .done => 4
  | .error => 5

end Sys2Proof.Machine
end

