-- ==== Sys2Proof/Machine/Turn.lean ====
section
/-! DEFINITION. The steps of the four agents (00_scope.md R2, R5; 60_exceptions.md R300, R302; 70_reset_and_hazards.md R345), and
whose turn it is (notes/assumptions/2.md). -/

namespace Sys2Proof.Machine

/-- R12: the visit of a sequencer state. -/
def stateInstr : St → Instr
  | .idle => .cdIdle
  | .mbBegin => .cdMbBegin
  | .mbHeader => .cdMbHeader
  | .uncompressedCopy => .cdUncompressedCopy
  | .hdrBlocks => .cdHdrBlocks
  | .hdrDistparams => .cdHdrDistparams
  | .hdrCtxmodes => .cdHdrCtxmodes
  | .hdrCmapL => .cdHdrCmapL
  | .hdrCmapD => .cdHdrCmapD
  | .hdrTrees => .cdHdrTrees
  | .cmdBegin => .cdCmdBegin
  | .cmdLiteral => .cdCmdLiteral
  | .cmdDistance => .cdCmdDistance
  | .cmdCopyWindow => .cdCmdCopyWindow
  | .cmdCopyDict => .cdCmdCopyDict
  | .cmdEnd => .cdCmdEnd
  | .mbDone => .cdMbDone
  | .flush => .cdFlush
  | .finished => .cdFinished
  | .error => .cdError

/-- R132: the operations before which the sequencer runs `BR.FILL`. -/
def readsStream : Instr → Bool
  | .brPeek _ => true
  | .brDrop _ => true
  | .brRead _ => true
  | .brAlign => true
  | .brByte => true
  | _ => false

/-- R132: the register is filled as far as the bytes go before an operation that reads the stream. -/
def State.fillFor (i : Instr) (s : State) : State := if readsStream i = true then { s with br := s.br.fill } else s

/-- One step of DEC: while a chunk is on offer, or input is waited for, nothing changes (R303); else the next item of the
visit, and with none left the next visit (R284). -/
def decTurn (s : State) : Result :=
  if s.heldOnOutput = true then .next s
  else
    match s.todo with
    | [] => exec (stateInstr s.st) s
    | .op i :: rest => if s.opHeld i = true then .next s else exec i (State.fillFor i { s with todo := rest })
    | .act m :: rest => runAct m { s with todo := rest }
    | .elem k :: rest =>
      match s.fetch k with
      | .ok i b => exec i { s with br := b, todo := rest }
      | .hold => .next s
      | .fail e b => .next (State.raise e 0 { s with br := b })
      | .bad => .fault .invalidTable

/-- R300: the source may step: a session runs, and neither end of input nor a failure has been reported. -/
def State.srcEnabled (s : State) : Bool := !s.st.noSession && !s.br.eos && !s.br.srcErr

/-- R300: an answer of the source. A delivery of no bytes is end of input, the callback's return of 0. -/
def State.srcAnswer (a : SrcAns) (s : State) : State :=
  match a with
  | .bytes [] => { s with br := { s.br with eos := true } }
  | .bytes l => { s with br := { s.br with input := s.br.input ++ l } }
  | .notYet => s
  | .eoi => { s with br := { s.br with eos := true } }
  | .error => { s with br := { s.br with srcErr := true } }

/-- R300: one step of the source; not enabled, it does nothing. -/
def srcTurn (s : State) : Result :=
  if s.srcEnabled = true then
    match s.env.src with
    | [] => .next s
    | a :: rest => .next (State.srcAnswer a { s with env := { s.env with src := rest } })
  else .next s

/-- R302: the sink accepts the chunk: it is appended to the output, and `SNK.PUSH` ends. -/
def State.accept (chunk : List Byte) (s : State) : State := { s with snk := { offer := none, out := s.snk.out ++ [chunk] } }

/-- R302: an answer of the sink to the chunk on offer. A short count that is no less than the length is an acceptance. -/
def State.snkAnswer (a : SnkAns) (chunk : List Byte) (s : State) : State :=
  match a with
  | .accept => s.accept chunk
  | .busy => s
  | .short k => if k < chunk.length then s.raise .sinkRejectedOutput 0 else s.accept chunk
  | .fail => s.raise .sinkRejectedOutput 1

/-- R302: one step of the sink; with nothing on offer it does nothing. -/
def snkTurn (s : State) : Result :=
  match s.snk.offer with
  | none => .next s
  | some chunk =>
    match s.env.snk with
    | [] => .next s
    | a :: rest => .next (State.snkAnswer a chunk { s with env := { s.env with snk := rest } })

/-- R321, R320: reset of the block: every item takes its reset value; what is outside the block stays. -/
def State.hardReset (s : State) : State := { s.sessionReset with wbits := State.reset.wbits }

/-- R24: a write of `CFG.WBITS`, ignored while a session runs. -/
def State.writeWbits (v : BitVec 5) (s : State) : State := if s.st.noSession = true then { s with wbits := v } else s

/-- R26: a write of `CTRL`; values other than 1, 2, 3 are ignored. -/
def writeCtrl (v : Nat) (s : State) : Result :=
  match ctrlOfNumber v with
  | some i => exec i s
  | none => .next s

/-- R345: one step of the host. -/
def hostTurn (s : State) : Result :=
  match s.env.host with
  | [] => .next s
  | a :: rest =>
    let t := { s with env := { s.env with host := rest } }
    match a with
    | .setWbits v => .next (t.writeWbits v)
    | .ctrl v => writeCtrl v t
    | .reset => .next t.hardReset

/-- Whose turn it is where no list of turns says: the host while it has something to do, the sink while a chunk is on offer, the
source while DEC waits for input, else DEC. -/
def State.defaultTurn (s : State) : Agent :=
  if !s.env.host.isEmpty then .host
  else if s.heldOnOutput && !s.env.snk.isEmpty then .snk
  else if s.heldOnInput && s.srcEnabled && !s.env.src.isEmpty then .src
  else .dec

/-- The step of an agent. -/
def agentTurn (a : Agent) (s : State) : Result :=
  match a with
  | .dec => decTurn s
  | .src => srcTurn s
  | .snk => snkTurn s
  | .host => hostTurn s

end Sys2Proof.Machine
end

