-- ==== Sys2Proof/Machine/Place.lean ====
section
/-! DEFINITION. Placing an instruction where the next step fetches it (notes/assumptions/9.md): an operation or a state goes to the
agenda or to `CD.ST`; a symbol gets a valid one-symbol table that names it, its extra bits at the cursor. -/

namespace Sys2Proof.Machine

/-- The input with the bits `x` at the cursor and zeros after them. -/
def placeBits (b : BitReader) (x : Nat) : BitReader :=
  { b with
    input :=
      (List.range (b.cur / 8)).map (streamByte b.input) ++
        bytesOfNat 16 ((streamByte b.input (b.cur / 8)).toNat % 2 ^ (b.cur % 8) + x * 2 ^ (b.cur % 8))
    val := 0
    bitpos := b.cur + Config.regW
    bytepos := 0
    nvalid := 0 }

/-- A one-symbol table (R157). -/
def placedTable (sym : Nat) : Table := singleTable Config.rootBits sym

/-- The element `k` comes next, its extra bits `x` at the cursor. -/
def State.placeElem (k : Elem) (x : Nat) (s : State) : State :=
  State.push [.elem k] { s with br := placeBits s.br x }

/-- The operation `i` comes next; the stream has bits to read. -/
def State.placeOp (i : Instr) (s : State) : State :=
  State.push [.op i] { s with br := if readsStream i = true ∨ i = .brFill then placeBits s.br 0 else s.br }

/-- Place an instruction of the opcode table's words. -/
def State.place (i : Instr) (s : State) : State :=
  match stateNumber i with
  | some _ =>
    match ([St.idle, .mbBegin, .mbHeader, .uncompressedCopy, .hdrBlocks, .hdrDistparams, .hdrCtxmodes, .hdrCmapL, .hdrCmapD,
        .hdrTrees, .cmdBegin, .cmdLiteral, .cmdDistance, .cmdCopyWindow, .cmdCopyDict, .cmdEnd, .mbDone, .flush, .finished,
        .error].find? fun t => decide (stateInstr t = i)) with
    | some t => s.goto t
    | none => s
  | none =>
    match opNumber i with
    | some _ =>
      match i with
      | .hdSym r =>
        State.push [.op i] { s with ht := storeTable s.ht r (placedTable 0), br := placeBits s.br 0 }
      | _ => s.placeOp i
    | none =>
      match clsymValue i with
      | some v => State.placeElem .clsym 0 { s with ht := { s.ht with clc := some (placedTable v) } }
      | none =>
        match blenValue i with
        | some (k, x) => State.placeElem .blen x { s with ht := storeTable s.ht (.bl s.visit.cat) (placedTable k) }
        | none =>
          match cmdsymParts i with
          | some (cell, a, c) =>
            State.placeElem .cmdsym 0
              { s with ht := { s.ht with tgI := List.replicate (s.blk.cmd.cur + 1) (placedTable (64 * cell + 8 * a + c)) } }
          | none =>
            match shortValue i with
            | some v =>
              State.placeElem .distsym 0
                { s with
                  ht := { s.ht with tgD := [placedTable v] }
                  cm := { s.cm with mapD := List.replicate (4 * s.blk.dist.cur + 4) 0 } }
            | none => s

/-- It is DEC's turn, with no chunk on offer. -/
def State.decNext (s : State) : State :=
  { s with env := { s.env with turns := .dec :: s.env.turns }, snk := { s.snk with offer := none } }

end Sys2Proof.Machine
end

