-- ==== Sys2Proof/Machine/Step.lean ====
section
/-! DEFINITION. One step of the machine: one step of the agent whose turn it is. -/

namespace Sys2Proof.Machine

/-- R74, R305: one step. The list of turns says whose it is, and where it is empty the fixed policy. -/
def step (s : State) : Host.Outcome State Fault Refusal :=
  match s.env.turns with
  | a :: rest => agentTurn a { s with env := { s.env with turns := rest } }
  | [] => agentTurn s.defaultTurn s

/-- The state with the instruction of the word `w` placed where the next step fetches it (notes/assumptions/9.md). -/
def State.withFetchWord (s : State) (nbits w : Nat) : State :=
  match decodeTableWord nbits w with
  | some i => (s.place i).decNext
  | none => s

end Sys2Proof.Machine
end

