-- ==== Sys2Proof/Safety.lean ====
section
/-! DEFINITION. What counts as a sound state and a sound step, in the terms the statements use. -/

namespace Sys2Proof.Machine

/-- R13: the cursor is never past the bits delivered. -/
def BitReader.CursorOk (b : BitReader) : Prop := b.cur ≤ b.avail

/-- R14: the refinement relation of the register form, `BR.CUR = 8*(BR.BYTEPOS - REG_W/8) + BR.BITPOS` with the bytes of `BR.VAL` and
the count `BR.NVALID`. The bytes shifted in are inside the input, or padding after its end. -/
def BitReader.RegisterOk (b : BitReader) : Prop :=
  (b.bytepos ≤ b.input.length ∨ b.eos = true) ∧ b.cur + 32 = 8 * b.bytepos + b.bitpos ∧
    b.val = regWord b.input b.bytepos ∧ b.nvalid = b.countValid

/-- R290, R306: `ERR.KIND` is set exactly in `ERROR`. -/
def State.ErrOk (s : State) : Prop := s.st = .error ↔ s.err.kind ≠ .none

/-- R235, R279, R306: without a session DEC has nothing left to do, and offers nothing. -/
def State.RestOk (s : State) : Prop := s.st.noSession = true → s.todo = [] ∧ s.snk.offer = none

/-- The invariant of the machine: R13, R14, the canonical form of the cells of `RB.MEM`, R306. -/
def State.Inv (s : State) : Prop :=
  s.br.CursorOk ∧ s.br.RegisterOk ∧ Mem.wf s.rb.mem = true ∧ s.ErrOk ∧ s.RestOk

/-- R76, R300: a later bit reader of the same session: the input is only appended to, not after its end or a failure, and the
cursor does not go back. -/
def BitReader.Extends (b c : BitReader) : Prop :=
  b.input <+: c.input ∧ b.cur ≤ c.cur ∧ (b.eos = true → c.eos = true ∧ c.input = b.input) ∧
    (b.srcErr = true → c.srcErr = true ∧ c.input = b.input)

/-- The meanings of a list of instructions one after another. -/
def execAll : List Instr → State → Result
  | [], s => .next s
  | i :: rest, s =>
    match exec i s with
    | .next t => execAll rest t
    | .fault f => .fault f
    | .refused r => .refused r

end Sys2Proof.Machine
end

