-- ==== Sys2Proof/Certificates/Slice0/Obligations.lean ====
section
/-! DEFINITION. The statements for the provers. Each cites the rules of spec/ it rests on; OBLIGATIONS.json says which of them
formalise a rule word for word. -/

open Sys2Proof Sys2Proof.Machine

/-- R112, R284, R131, R135, R306, R307: on a turn of DEC with nothing on offer, where the bits at the cursor decode to the instruction `i` and its bits are there, the step is `exec i`, the bits consumed and the element taken off the agenda; where a field of the element is not there, the step raises `truncated-input(0)` after the end of input and `source-failed(0)` after a failure of the source, with the fields before it consumed and `BR.CUR` at its first bit. The clauses for an empty list of turns are the model's choice: the fixed policy of notes/assumptions/2.md gives DEC the turn. The register form that the reader is left in is notes/assumptions/13.md. The agenda (`todo`) is the model's form of the position inside a visit, and that a fault between the fields of one element leaves the earlier ones consumed is its reading of R307 against D5 (notes/assumptions/1.md); a codeword is one field (notes/assumptions/32.md), and that its read asks for the root width after a failure of the source is notes/assumptions/29.md. -/
def Obligations.StepRunsDecodedElement : Prop :=
  ∀ (s : State) (k : Elem) (rest : List Todo) (fmt : ElemFmt) (i : Instr) (fs : List Field),
    s.snk.offer = none → s.todo = .elem k :: rest → s.elemFmt k = some fmt →
    decodeElem fmt (s.br.peek fetchBits) = some (i, fs) →
    (∀ b, BitReader.takeAll s.par s.br fs = .ok b →
      b.cur = s.br.cur + fieldBits fs ∧ b.input = s.br.input ∧ b.eos = s.br.eos ∧ b.srcErr = s.br.srcErr ∧
      (∀ ts, s.env.turns = .dec :: ts →
        step s = exec i { s with env := { s.env with turns := ts }, br := b, todo := rest }) ∧
      (s.env.turns = [] → s.env.host = [] → step s = exec i { s with br := b, todo := rest })) ∧
    (∀ e b, BitReader.takeAll s.par s.br fs = .fail e b →
      (∀ ts, s.env.turns = .dec :: ts →
        step s = .next (State.raise e 0 { s with env := { s.env with turns := ts }, br := b })) ∧
      (s.env.turns = [] → s.env.host = [] → step s = .next (State.raise e 0 { s with br := b }))) ∧
    ∀ pre f post c, fs = pre ++ f :: post → BitReader.takeAll s.par s.br pre = .ok c → f.drop ≠ 0 →
      (s.br.srcErr = false → s.br.eos = true → s.br.avail < s.br.cur + fieldBits pre + f.drop →
        ∃ b, BitReader.takeAll s.par s.br fs = .fail .truncatedInput b ∧ b.cur = s.br.cur + fieldBits pre ∧
          b.input = s.br.input ∧ b.eos = true ∧ b.srcErr = false) ∧
      (s.br.srcErr = true → f.need ≠ 0 → s.br.avail < s.br.cur + fieldBits pre + f.need →
        ∃ b, BitReader.takeAll s.par s.br fs = .fail .sourceFailed b ∧ b.cur = s.br.cur + fieldBits pre ∧
          b.input = s.br.input ∧ b.eos = s.br.eos ∧ b.srcErr = true)

/-- R284, R12, R132: on a turn of DEC with nothing on offer, the step performs the operation, the register being filled first where the operation reads the stream (`fillFor`), or the statement, or, with nothing left of the visit, the visit of the sequencer state; an operation that is held is not performed. Whose turn it is stands in the model's list of turns (notes/assumptions/2.md), and how far the register is filled is the model's choice (notes/assumptions/13.md). The agenda (`todo`) is the model's form of the position inside a visit (notes/assumptions/1.md). -/
def Obligations.StepRunsAgenda : Prop :=
  ∀ (s : State) (ts : List Agent) (rest : List Todo), s.snk.offer = none → s.env.turns = .dec :: ts →
    (∀ i, s.todo = .op i :: rest → State.opHeld { s with env := { s.env with turns := ts } } i = false →
      step s = exec i (State.fillFor i { s with env := { s.env with turns := ts }, todo := rest })) ∧
    (∀ m, s.todo = .act m :: rest → step s = runAct m { s with env := { s.env with turns := ts }, todo := rest }) ∧
    (s.todo = [] → step s = exec (stateInstr s.st) { s with env := { s.env with turns := ts } })

/-- R93, R104, R95, R172, R246, R108, R109: a few words written out from the encoding tables decode to the instructions they stand for. -/
def Obligations.DecodeOfWrittenWords : Prop :=
  decodeElem .islast 0b1 = some (.islast true, [⟨1, 1⟩]) ∧
    decodeElem .mnibbles 0b10 = some (.mnibbles 2, [⟨2, 2⟩]) ∧
    decodeElem .rawbyte 0x41 = some (.rawbyte 0x41, [⟨8, 8⟩]) ∧
    decodeElem .varlen8 0b10011 = some (.varlen8N 1 1, [⟨1, 1⟩, ⟨3, 3⟩, ⟨1, 1⟩]) ∧
    decodeElem .hskip 0b01 = some (.hskipSimple, [⟨2, 2⟩]) ∧
    decodeElem .clcl 0b0111 = some (.clcl1, [⟨4, 4⟩]) ∧
    decodeElem (.clsym (singleTable 5 16)) 0 = some (.clsymRepeat, [⟨5, 0⟩]) ∧
    decodeElem (.blen (singleTable 5 4)) 0b101 = some (.blen4 5, [⟨5, 0⟩, ⟨3, 3⟩]) ∧
    decodeElem (.cmdsym (singleTable 5 137)) 0 = some (.cmdsymCell2 1 1, [⟨5, 0⟩]) ∧
    decodeElem (.distsym (singleTable 5 16) 16) 0 = some (.distsymLong 16, [⟨5, 0⟩]) ∧
    decodeElem (.distExtra 14) 12300 = some (.distExtra 14 12300, [⟨14, 14⟩])

/-- R91, R112: for every format whose table is laid out as the builder lays it out, decoding the encoding of an instruction, followed by any bits, gives the instruction back and consumes exactly its bits. -/
def Obligations.DecodeEncodeAgree : Prop :=
  ∀ (fmt : ElemFmt) (i : Instr) (v n rest : Nat), (∀ t, fmt.table? = some t → t.Replicated) →
    encode fmt i = some (v, n) →
    ∃ fs, decodeElem fmt (v + 2 ^ n * rest) = some (i, fs) ∧ fieldBits fs = n

/-- R90, R91: every well-formed instruction that is no operation, host write or state has an encoding in some format, and the encoding fits its length. -/
def Obligations.EveryElementEncodes : Prop :=
  ∀ i : Instr, i.WellFormed = true → opNumber i = none → stateNumber i = none → (∀ v, ctrlOfNumber v ≠ some i) →
    ∃ (fmt : ElemFmt) (v n : Nat), (∀ t, fmt.table? = some t → t.Replicated) ∧ encode fmt i = some (v, n) ∧ v < 2 ^ n

/-- R104: a `VARLEN8` pattern has 1 to 11 bits and a value 0 .. 255; it is spelt `0`, `1 000` or `1 nnn x..x` with value 0, 1 or `2^n + x`; and every value 0 .. 255 has exactly one spelling. -/
def Obligations.Varlen8Spelling : Prop :=
  (∀ w, ∃ i fs, decodeElem .varlen8 w = some (i, fs) ∧ 1 ≤ fieldBits fs ∧ fieldBits fs ≤ 11 ∧ varlen8Value i ≤ 255 ∧
      (w % 2 = 0 → i = .varlen8Zero ∧ fieldBits fs = 1) ∧
      (w % 16 = 1 → i = .varlen8One ∧ fieldBits fs = 4) ∧
      (w % 2 = 1 → w / 2 % 8 ≠ 0 →
        i = .varlen8N (w / 2 % 8) (w / 16 % 2 ^ (w / 2 % 8)) ∧ fieldBits fs = 4 + w / 2 % 8)) ∧
    varlen8Value .varlen8Zero = 0 ∧ varlen8Value .varlen8One = 1 ∧ (∀ n x, varlen8Value (.varlen8N n x) = 2 ^ n + x) ∧
    (∀ v, v ≤ 255 → ∃ w i fs, decodeElem .varlen8 w = some (i, fs) ∧ varlen8Value i = v) ∧
    (∀ w w' i i' fs fs', decodeElem .varlen8 w = some (i, fs) → decodeElem .varlen8 w' = some (i', fs') →
      varlen8Value i = varlen8Value i' →
      fieldBits fs = fieldBits fs' ∧ w % 2 ^ fieldBits fs = w' % 2 ^ fieldBits fs)

/-- R134, R133, R60: bit `j` of a peek of `n` bits is stream bit `BR.CUR + j`, a bit of byte `(BR.CUR + j) div 8`, zero past the bytes delivered; the value has no bit from `n` on. -/
def Obligations.PeekIsStreamBits : Prop :=
  ∀ (b : BitReader) (n j : Nat),
    (j < n → (b.peek n).testBit j = (b.input.getD ((b.cur + j) / 8) 0).getLsbD ((b.cur + j) % 8)) ∧
    (n ≤ j → (b.peek n).testBit j = false)

/-- R134, R135, R136: with the bits there (or none asked for) `BR.PEEK`, `BR.DROP` and `BR.READ` complete; the last two advance the cursor by `n` and change nothing else but the register form. The result field `res` is the model's (notes/assumptions/26.md). An operand outside the range of its rule runs in the same way, the model's choice (notes/assumptions/34.md). -/
def Obligations.BitReaderReads : Prop :=
  ∀ (s : State) (n : Nat), n = 0 ∨ (s.br.cur + n ≤ s.br.avail ∧ s.br.windowShort s.par = false) →
    exec (.brPeek n) s = .next { s with res := { s.res with val := s.br.peek n } } ∧
    exec (.brDrop n) s = .next { s with br := s.br.advance n } ∧
    exec (.brRead n) s = .next { s with br := s.br.advance n, res := { s.res with val := s.br.peek n } } ∧
    (s.br.advance n).cur = s.br.cur + n ∧ (s.br.advance n).input = s.br.input ∧
    (s.br.advance n).eos = s.br.eos ∧ (s.br.advance n).srcErr = s.br.srcErr

/-- R131, R134, R135: where `n` bits are not there, a peek after end of input gives the zero-padded window, a consume raises `truncated-input(0)`; a failed source raises `source-failed(0)`; with neither both are held and stay the next operation. The agenda (`todo`) is the model's form of the position inside a visit (notes/assumptions/1.md). That a held operation stands in front again is the model's form of a hold (notes/assumptions/4.md). The result field `res` is the model's (notes/assumptions/26.md). An operand outside the range of its rule runs in the same way, the model's choice (notes/assumptions/34.md). -/
def Obligations.BitReaderPastEnd : Prop :=
  ∀ (s : State) (n : Nat), n ≠ 0 → s.br.avail < s.br.cur + n →
    (s.br.srcErr = false → s.br.eos = true →
      exec (.brPeek n) s = .next { s with res := { s.res with val := s.br.peek n } } ∧
      exec (.brDrop n) s = .next (s.raise .truncatedInput 0) ∧
      exec (.brRead n) s = .next (s.raise .truncatedInput 0)) ∧
    (s.br.srcErr = true →
      exec (.brPeek n) s = .next (s.raise .sourceFailed 0) ∧
      exec (.brDrop n) s = .next (s.raise .sourceFailed 0) ∧
      exec (.brRead n) s = .next (s.raise .sourceFailed 0)) ∧
    (s.br.srcErr = false → s.br.eos = false →
      exec (.brPeek n) s = .next { s with todo := .op (.brPeek n) :: s.todo } ∧
      exec (.brDrop n) s = .next { s with todo := .op (.brDrop n) :: s.todo } ∧
      exec (.brRead n) s = .next { s with todo := .op (.brRead n) :: s.todo })

/-- R137, R138, R131, R135: `BR.ALIGN` moves the cursor to the next byte boundary, 0 to 7 bits on, and `BR.BYTE` returns the whole byte at an aligned cursor; each completes where its bits are there. Where they are not, each raises `truncated-input(0)` after the end of input and `source-failed(0)` after a failure of the source, and with neither is held and stays the next operation; for `BR.ALIGN` that is so only in states that no run reaches, in which the cursor is past the input. The result field `res` is the model's (notes/assumptions/26.md). The agenda (`todo`) is the model's form of the position inside a visit (notes/assumptions/1.md). That a held operation stands in front again is the model's form of a hold (notes/assumptions/4.md). -/
def Obligations.AlignAndByte : Prop :=
  ∀ (s : State),
    (s.br.windowShort s.par = false →
      (s.br.CursorOk → ∃ n, n < 8 ∧ (s.br.cur + n) % 8 = 0 ∧ exec .brAlign s = .next { s with br := s.br.advance n }) ∧
      (s.br.cur % 8 = 0 → ∀ b, s.br.input[s.br.cur / 8]? = some b →
        exec .brByte s = .next { s with br := s.br.advance 8, res := { s.res with val := b.toNat } })) ∧
    (∀ i n, (i = .brAlign ∧ 0 < n ∧ n < 8 ∧ (s.br.cur + n) % 8 = 0) ∨ (i = .brByte ∧ n = 8 ∧ s.br.cur % 8 = 0) →
      s.br.avail < s.br.cur + n →
      (s.br.srcErr = false → s.br.eos = true → exec i s = .next (s.raise .truncatedInput 0)) ∧
      (s.br.srcErr = true → exec i s = .next (s.raise .sourceFailed 0)) ∧
      (s.br.srcErr = false → s.br.eos = false → exec i s = .next { s with todo := .op i :: s.todo }))

/-- R132, R14: `BR.FILL` changes no architectural state of the bit reader; the first fill of a session, with four bytes or end of input, loads the four bytes and sets `BR.BYTEPOS` to 4 and `BR.BITPOS` to 0; with the byte of the cursor and the three after it (or end of input) `BR.FILL` completes with at least `REG_W - 7` unconsumed bits and `BR.CUR = 8*(BR.BYTEPOS - 4) + BR.BITPOS`; else it raises `source-failed(0)` after a failure of the source, or is held. That fewer than four bytes are shifted in as they come, that the empty register has `BR.BITPOS = REG_W`, how many bits the operation waits for, and that a held or faulting one has shifted in nothing are the model's choices (notes/assumptions/13.md); that a held operation stands in front again is notes/assumptions/4.md. The agenda (`todo`) is the model's form of the position inside a visit (notes/assumptions/1.md). -/
def Obligations.FillKeepsCursor : Prop :=
  (∀ b : BitReader, b.fill.input = b.input ∧ b.fill.cur = b.cur ∧ b.fill.eos = b.eos ∧ b.fill.srcErr = b.srcErr) ∧
  (∀ b : BitReader, b.bytepos = 0 → b.bitpos = 32 → (4 ≤ b.input.length ∨ b.eos = true) →
    b.fill.bytepos = 4 ∧ b.fill.bitpos = 0 ∧ b.fill.nvalid = min (8 * b.input.length) 32 - b.cur ∧
      ∀ k, k < 4 → (b.fill.val >>> (8 * k)).setWidth 8 = b.input.getD k 0) ∧
  ∀ s : State, s.br.RegisterOk →
    (s.br.eos = true ∨ s.br.cur / 8 + 4 ≤ s.br.input.length →
      exec .brFill s = .next { s with br := s.br.fill } ∧ s.br.fill.bitpos < 8 ∧
        s.br.cur + 32 = 8 * s.br.fill.bytepos + s.br.fill.bitpos) ∧
    (s.br.eos = false → s.br.input.length < s.br.cur / 8 + 4 →
      (s.br.srcErr = true → exec .brFill s = .next (s.raise .sourceFailed 0)) ∧
      (s.br.srcErr = false → exec .brFill s = .next { s with todo := .op .brFill :: s.todo }))

/-- R303, R131: on a turn of DEC, while a chunk is on offer or the element or operation expected next is held on input, nothing changes but the list of turns. That an element of several reads that is held at a later one leaves `BR.CUR` at its start is the model's choice (notes/assumptions/1.md: an element is taken whole); that a held operation stays in front of the agenda is notes/assumptions/4.md, that it is the front of the agenda that is held notes/assumptions/24.md, and the list of turns is the model's (notes/assumptions/2.md). -/
def Obligations.HeldStepChangesNothing : Prop :=
  ∀ (s : State) (ts : List Agent), s.env.turns = .dec :: ts →
    State.heldOnOutput s = true ∨ State.heldOnInput { s with env := { s.env with turns := ts } } = true →
    step s = .next { s with env := { s.env with turns := ts } }

/-- R150, R151, R157: `HT.BUILD` faults with sub-code 1 on no used symbol, accepts one used symbol with a zero-bit table, and with two or more accepts exactly the length arrays that fill the code space, else faults with sub-code 2; it completes with the table, or with the fault raised, and a fault makes no table valid; nor does it take the validity of one away, which no rule says: that a valid table stays valid, with free contents, is the model's reading (notes/assumptions/6.md). Operands outside the range of R150 run in the same way, the model's choice (notes/assumptions/34.md). The field that holds the table is the model's (notes/assumptions/26.md). -/
def Obligations.BuildTableValidity : Prop :=
  ∀ (s : State) (src : LenSrc) (a r : Nat),
    ((∀ l ∈ s.lensOf src a, l = 0) → exec (.htBuild src a r) s = .next (s.raise .malformedHuffman 1)) ∧
    (∀ sym l, usedSyms (s.lensOf src a) = [(sym, l)] → exec (.htBuild src a r) s =
      .next { s with ht := { s.ht with out := some ⟨r, List.replicate (2 ^ r) (.terminal 0 sym)⟩ } }) ∧
    (2 ≤ (usedSyms (s.lensOf src a)).length →
      (((s.lensOf src a).filter (· ≠ 0)).map fun l => 2 ^ (15 - l)).sum ≠ 32768 →
      exec (.htBuild src a r) s = .next (s.raise .malformedHuffman 2)) ∧
    (2 ≤ (usedSyms (s.lensOf src a)).length →
      (((s.lensOf src a).filter (· ≠ 0)).map fun l => 2 ^ (15 - l)).sum = 32768 →
      ∃ t, t.rootBits = r ∧ exec (.htBuild src a r) s = .next { s with ht := { s.ht with out := some t } }) ∧
    ∀ e ref, (lookupTable (s.raise .malformedHuffman e).ht ref).isSome = (lookupTable s.ht ref).isSome

/-- R158, R153 to R156, R166, R167: in a table with root width `r` built from two or more used symbols of lengths up to 15, every codeword of the canonical code, in the root level or in a second-level sub-table, followed by any bits, decodes to its symbol and is consumed as one drop of exactly its length, with a peek of at most 15 bits. That it is one drop is the model's reading of R167 against R166 (notes/assumptions/32.md). -/
def Obligations.CanonicalCodeDecodes : Prop :=
  ∀ (lens : List Nat) (r : Nat) (t : Table), r ≤ 15 → (∀ l ∈ lens, l ≤ 15) → 2 ≤ (usedSyms lens).length →
    buildTable lens r = .ok t → ∀ c ∈ canonicalCode lens, ∀ rest,
      ∃ n, lookupSym t (c.key + 2 ^ c.len * rest) = some (c.sym, [⟨n, c.len⟩]) ∧ n ≤ 15

/-- R153: the canonical code has one codeword for each used symbol, of the length the array gives it, in the order of length and then symbol value; the first codeword is 0 and each next one is the one before plus 1, shifted left by the increase in length; the index of a codeword is its reversal; where the lengths fill the code space (R151) the last code is all ones. -/
def Obligations.CanonicalCodeComplete : Prop :=
  ∀ lens : List Nat, (∀ l ∈ lens, l ≤ 15) →
    (∀ sym l, (∃ c ∈ canonicalCode lens, c.sym = sym ∧ c.len = l) ↔ (lens[sym]? = some l ∧ l ≠ 0)) ∧
    (canonicalCode lens).Pairwise (fun c d => c.len < d.len ∨ (c.len = d.len ∧ c.sym < d.sym)) ∧
    (∀ c : Coded, (canonicalCode lens)[0]? = some c → c.code = 0) ∧
    (∀ (i : Nat) (c d : Coded), (canonicalCode lens)[i]? = some c → (canonicalCode lens)[i + 1]? = some d →
      d.code = (c.code + 1) <<< (d.len - c.len)) ∧
    (∀ c ∈ canonicalCode lens, ∀ j : Nat, c.key.testBit j = (decide (j < c.len) && c.code.testBit (c.len - 1 - j))) ∧
    (((lens.filter (· ≠ 0)).map fun l => 2 ^ (15 - l)).sum = 32768 →
      ∀ c : Coded, (canonicalCode lens).getLast? = some c → c.code + 1 = 2 ^ c.len)

/-- R166, R167, R15: `HD.SYM` of a valid table completes with the symbol of the entry and the matched bits consumed, where they are there; of a single-symbol table it completes with no bit consumed, also after a failure of the source; where the input ends inside the codeword it raises `truncated-input(0)`, and where a source that failed has not delivered the bits of the peek `source-failed(0)`, with the cursor at the first bit of the codeword; where they are still to come it is held and stays the next operation; the table just built takes its name, and is then the valid table of that name. Where the fault leaves the cursor is the model's reading of R167 and D5 against R166 (notes/assumptions/32.md), that the single-symbol table does not raise `source-failed`, and any other table asks for the bits of the peek, its reading of R166 (notes/assumptions/29.md). The agenda (`todo`) is the model's form of the position inside a visit (notes/assumptions/1.md), and that a held operation stands in front again its form of a hold (notes/assumptions/4.md). The field that holds a table just built is the model's (notes/assumptions/26.md). The result field `res` is the model's (notes/assumptions/26.md). -/
def Obligations.SymbolRead : Prop :=
  (∀ (s : State) (r : TableRef) (t : Table) (sym : Nat) (fs : List Field) (b : BitReader),
    lookupTable s.ht r = some t → lookupSym t (s.br.peek 64) = some (sym, fs) →
    BitReader.takeAll s.par s.br fs = .ok b →
    exec (.hdSym r) s = .next { s with br := b, res := { s.res with val := sym } } ∧
      b.cur = s.br.cur + fieldBits fs ∧ b.input = s.br.input) ∧
  (∀ (s : State) (r : TableRef) (n sym : Nat), lookupTable s.ht r = some (singleTable n sym) → s.br.need s.par n ≠ .hold →
    ∃ b, exec (.hdSym r) s = .next { s with br := b, res := { s.res with val := sym } } ∧ b.cur = s.br.cur ∧
      b.input = s.br.input) ∧
  (∀ (s : State) (r : TableRef) (t : Table) (sym n d : Nat),
    lookupTable s.ht r = some t → lookupSym t (s.br.peek 64) = some (sym, [⟨n, d⟩]) →
    (s.br.eos = true → s.br.srcErr = false → d ≠ 0 → s.br.avail < s.br.cur + d →
      ∃ b, exec (.hdSym r) s = .next (State.raise .truncatedInput 0 { s with br := b }) ∧ b.cur = s.br.cur ∧
        b.input = s.br.input) ∧
    (s.br.srcErr = true → d ≠ 0 → n ≠ 0 → s.br.avail < s.br.cur + n →
      ∃ b, exec (.hdSym r) s = .next (State.raise .sourceFailed 0 { s with br := b }) ∧ b.cur = s.br.cur ∧
        b.input = s.br.input) ∧
    (s.br.eos = false → s.br.srcErr = false → n ≠ 0 → s.br.avail < s.br.cur + n →
      exec (.hdSym r) s = .next { s with todo := .op (.hdSym r) :: s.todo })) ∧
  (∀ (s : State) (r : TableRef) (t : Table), s.ht.out = some t →
    runAct (.store r) s = .next { s with ht := storeTable s.ht r t }) ∧
  ∀ (h : TableRam) (t : Table) (c : Cat) (i : Nat),
    lookupTable (storeTable h (.bt c) t) (.bt c) = some t ∧ lookupTable (storeTable h (.bl c) t) (.bl c) = some t ∧
    lookupTable (storeTable h .cm t) .cm = some t ∧ lookupTable (storeTable h .clc t) .clc = some t ∧
    (i ≤ h.tgL.length → lookupTable (storeTable h (.tgL i) t) (.tgL i) = some t) ∧
    (i ≤ h.tgI.length → lookupTable (storeTable h (.tgI i) t) (.tgI i) = some t) ∧
    (i ≤ h.tgD.length → lookupTable (storeTable h (.tgD i) t) (.tgD i) = some t)

/-- R168, R169, R171: `HD.READCODE` clears the first `a` lengths, reads the selector, and after the description builds; selector 1 is the simple form, 0, 2 and 3 the complicated one with that many entries skipped; each form starts as its rule says. The agenda (`todo`) is the model's form of the position inside a visit (notes/assumptions/1.md). An operand outside the range of its rule runs in the same way, the model's choice (notes/assumptions/34.md). -/
def Obligations.ReadCodeSequence : Prop :=
  ∀ (s : State) (a skip : Nat),
    exec (.hdReadcode a) s = .next { s with
      hd := { s.hd with a := a, len := zeroLens s.hd.len a }
      todo := .elem .hskip :: .op (.htBuild .len a 8) :: s.todo } ∧
    (∀ k, k < a → k < s.hd.len.length → (zeroLens s.hd.len a)[k]? = some 0) ∧
    exec .hskipSimple s = .next { s with todo := .op (.hdSimple s.hd.a) :: s.todo } ∧
    exec .hskipComplex0 s = .next { s with todo := .op (.hdComplex s.hd.a 0) :: s.todo } ∧
    exec .hskipComplex2 s = .next { s with todo := .op (.hdComplex s.hd.a 2) :: s.todo } ∧
    exec .hskipComplex3 s = .next { s with todo := .op (.hdComplex s.hd.a 3) :: s.todo } ∧
    exec (.hdSimple a) s = .next { s with hd := { s.hd with a := a, syms := [] }, todo := .elem .nsym :: s.todo } ∧
    exec (.hdComplex a skip) s = .next { s with
      hd := { s.hd with a := a, clcl := List.replicate 18 0, space := 32, ncodes := 0, i := skip }
      todo := .act .clclLoop :: s.todo }

/-- R169: `NSYM` asks for `n + 1` symbols and their check, `SIMPLE_SYM` has `bitlen(a - 1)` bits, the least `w` with `a - 1 < 2^w`, and latches the next symbol, `TREE_SELECT` gives four symbols the lengths 2,2,2,2 or 1,2,3,3; after the check one symbol gets length 1, two get 1,1, three get 1,2,2, four ask for `TREE_SELECT`. The agenda (`todo`) is the model's form of the position inside a visit (notes/assumptions/1.md). -/
def Obligations.SimpleCodeElements : Prop :=
  ∀ (s : State) (n w v : Nat) (b : Bool),
    exec (.nsym n) s = .next { s with
      todo := List.replicate (n + 1) (.elem .simpleSym) ++ .act .simpleCheck :: s.todo } ∧
    (2 ≤ s.hd.a → s.hd.a ≤ 704 → 2 ^ (w - 1) ≤ s.hd.a - 1 → s.hd.a - 1 < 2 ^ w →
      s.elemFmt .simpleSym = some (.simpleSym w)) ∧
    exec (.simpleSym w v) s = .next { s with hd := { s.hd with syms := s.hd.syms ++ [v] } } ∧
    (∀ s0 s1 s2 s3, s.hd.syms = [s0, s1, s2, s3] →
      exec (.treeSelect false) s = .next { s with
        hd := { s.hd with len := (((s.hd.len.set s0 2).set s1 2).set s2 2).set s3 2 } } ∧
      exec (.treeSelect true) s = .next { s with
        hd := { s.hd with len := (((s.hd.len.set s0 1).set s1 2).set s2 3).set s3 3 } }) ∧
    (∃ t, exec (.treeSelect b) s = .next t ∧ t.br = s.br ∧ t.rb = s.rb ∧ t.todo = s.todo) ∧
    ((∀ v ∈ s.hd.syms, v < s.hd.a) → s.hd.syms.Nodup →
      (∀ s0, s.hd.syms = [s0] → runAct .simpleCheck s = .next { s with hd := { s.hd with len := s.hd.len.set s0 1 } }) ∧
      (∀ s0 s1, s.hd.syms = [s0, s1] → runAct .simpleCheck s = .next { s with
        hd := { s.hd with len := (s.hd.len.set s0 1).set s1 1 } }) ∧
      (∀ s0 s1 s2, s.hd.syms = [s0, s1, s2] → runAct .simpleCheck s = .next { s with
        hd := { s.hd with len := ((s.hd.len.set s0 1).set s1 2).set s2 2 } }) ∧
      (s.hd.syms.length = 4 → runAct .simpleCheck s = .next { s with todo := .elem .treeSelect :: s.todo }))

/-- R170: a symbol at or above the alphabet size raises `malformed-huffman(3)`; else a repeated symbol raises `malformed-huffman(4)`; else the description goes on. -/
def Obligations.SimpleCodeChecks : Prop :=
  ∀ (s : State),
    ((∃ v ∈ s.hd.syms, s.hd.a ≤ v) → runAct .simpleCheck s = .next (s.raise .malformedHuffman 3)) ∧
    ((∀ v ∈ s.hd.syms, v < s.hd.a) → ¬ s.hd.syms.Nodup → runAct .simpleCheck s = .next (s.raise .malformedHuffman 4)) ∧
    ((∀ v ∈ s.hd.syms, v < s.hd.a) → s.hd.syms.Nodup →
      ∃ t, runAct .simpleCheck s = .next t ∧ t.st = s.st ∧ t.err = s.err ∧ t.br = s.br ∧ t.rb = s.rb)

/-- R171, R172, R173: each `CLCL` element stores its value under the symbol that `CL_ORDER` gives the place and counts the space it takes; phase 1 goes on while entries and space are left; at its end a code that has one length or fills its space is built, any other raises `malformed-huffman(5)`. The agenda (`todo`) is the model's form of the position inside a visit (notes/assumptions/1.md). -/
def Obligations.CodeLengthCodePhase : Prop :=
  (∀ (s : State) (v : Nat) (i : Instr),
    (i, v) ∈ [(Instr.clcl0, 0), (.clcl1, 1), (.clcl2, 2), (.clcl3, 3), (.clcl4, 4), (.clcl5, 5)] →
    exec i s = .next { s with
      hd := { s.hd with
        clcl := s.hd.clcl.set ([1, 2, 3, 4, 0, 5, 17, 6, 16, 7, 8, 9, 10, 11, 12, 13, 14, 15].getD s.hd.i 0) v
        space := if v = 0 then s.hd.space else s.hd.space - ((32 / 2 ^ v : Nat) : Int)
        ncodes := if v = 0 then s.hd.ncodes else s.hd.ncodes + 1
        i := s.hd.i + 1 } }) ∧
  (∀ s : State,
    (s.hd.i < 18 → 0 < s.hd.space →
      runAct .clclLoop s = .next { s with todo := .elem .clcl :: .act .clclLoop :: s.todo }) ∧
    (18 ≤ s.hd.i ∨ s.hd.space ≤ 0 → s.hd.ncodes = 1 ∨ s.hd.space = 0 →
      runAct .clclLoop s = .next { s with
        todo := .op (.htBuild .clcl 18 5) :: .act (.store .clc) :: .act .clsymStart :: s.todo }) ∧
    (18 ≤ s.hd.i ∨ s.hd.space ≤ 0 → s.hd.ncodes ≠ 1 → s.hd.space ≠ 0 →
      runAct .clclLoop s = .next (s.raise .malformedHuffman 5)))

/-- R175: each symbol below 16 is the length of the next symbol of the alphabet, ends a run of repeats and, not 0, becomes the previous length and takes its space. -/
def Obligations.CodeLengthSymbols : Prop :=
  ∀ (s : State) (c : Nat) (i : Instr),
    (i, c) ∈ [(Instr.clsymLen0, 0), (.clsymLen1, 1), (.clsymLen2, 2), (.clsymLen3, 3), (.clsymLen4, 4), (.clsymLen5, 5), (.clsymLen6, 6), (.clsymLen7, 7),
      (.clsymLen8, 8), (.clsymLen9, 9), (.clsymLen10, 10), (.clsymLen11, 11), (.clsymLen12, 12), (.clsymLen13, 13), (.clsymLen14, 14), (.clsymLen15, 15)] →
    exec i s = .next { s with
      hd := { s.hd with
        rep := 0
        len := s.hd.len.set s.hd.symbol c
        symbol := s.hd.symbol + 1
        prevLen := if c = 0 then s.hd.prevLen else c
        space := if c = 0 then s.hd.space else s.hd.space - ((32768 / 2 ^ c : Nat) : Int) } }

/-- R175: symbols 16 and 17 ask for their extra bits, another length than the last run starts a new count; the extra bits widen the count, give the increase `delta` the length of the run, and raise `malformed-huffman(6)` past the alphabet. The agenda (`todo`) is the model's form of the position inside a visit (notes/assumptions/1.md). -/
def Obligations.CodeLengthRepeats : Prop :=
  ∀ (s : State) (x : Nat),
    exec .clsymRepeat s = .next { s with
      hd := { s.hd with rep := if s.hd.repLen = s.hd.prevLen then s.hd.rep else 0, repLen := s.hd.prevLen }
      todo := .elem .clrep16 :: s.todo } ∧
    exec .clsymZeros s = .next { s with
      hd := { s.hd with rep := if s.hd.repLen = 0 then s.hd.rep else 0, repLen := 0 }
      todo := .elem .clrep17 :: s.todo } ∧
    ∀ i xb r, (i, xb) ∈ [(Instr.clrepExtra16 x, 2), (.clrepExtra17 x, 3)] →
      r = (if 0 < s.hd.rep then (s.hd.rep - 2) * 2 ^ xb else 0) + x + 3 →
      (s.hd.a < s.hd.symbol + (r - s.hd.rep) → ∃ t, exec i s = .next (State.raise .malformedHuffman 6 t) ∧
        t.br = s.br ∧ t.rb = s.rb ∧ t.snk = s.snk) ∧
      (s.hd.symbol + (r - s.hd.rep) ≤ s.hd.a →
        exec i s = .next { s with
          hd := { s.hd with
            rep := r
            len := s.hd.len.mapIdx fun k w =>
              if s.hd.symbol ≤ k ∧ k < s.hd.symbol + (r - s.hd.rep) then s.hd.repLen else w
            symbol := s.hd.symbol + (r - s.hd.rep)
            space := if s.hd.repLen = 0 then s.hd.space
              else s.hd.space - (((r - s.hd.rep) * 2 ^ (15 - s.hd.repLen) : Nat) : Int) } })

/-- R174, R175, R176: phase 2 starts with 8 as previous length and the whole space, goes on with a symbol of `CLC_TREE` while symbols and space are left, and at its end raises `malformed-huffman(7)` unless the space is used up. The agenda (`todo`) is the model's form of the position inside a visit (notes/assumptions/1.md). -/
def Obligations.CodeLengthPhaseEnd : Prop :=
  ∀ s : State,
    runAct .clsymStart s = .next { s with
      hd := { s.hd with symbol := 0, prevLen := 8, rep := 0, repLen := 0, space := 32768 }
      todo := .act .clsymLoop :: s.todo } ∧
    (s.hd.symbol < s.hd.a → 0 < s.hd.space →
      runAct .clsymLoop s = .next { s with todo := .elem .clsym :: .act .clsymLoop :: s.todo }) ∧
    s.elemFmt .clsym = (lookupTable s.ht .clc).map .clsym ∧
    (s.hd.a ≤ s.hd.symbol ∨ s.hd.space ≤ 0 → s.hd.space = 0 → runAct .clsymLoop s = .next s) ∧
    (s.hd.a ≤ s.hd.symbol ∨ s.hd.space ≤ 0 → s.hd.space ≠ 0 →
      runAct .clsymLoop s = .next (s.raise .malformedHuffman 7))

/-- R185, R186: `CM.DECODE(n)` starts with a map of `n` zeros; with one tree nothing more is read; `RLEMAX` gives `mrlp`, 0 without run lengths, and the code has `num_trees + mrlp` symbols. The agenda (`todo`) is the model's form of the position inside a visit (notes/assumptions/1.md). An operand outside the range of its rule runs in the same way, the model's choice (notes/assumptions/34.md). -/
def Obligations.ContextMapHeader : Prop :=
  ∀ (s : State) (n v m : Nat),
    exec (.cmDecode n) s = .next { s with
      cm := { s.cm with n := n, mrlp := 0, i := 0, m := List.replicate n 0 }, todo := .elem .ntrees :: s.todo } ∧
    exec (.ntrees v) s = .next { s with
      cm := { s.cm with num := v + 1 }, todo := if v = 0 then s.todo else .elem .rleflag :: s.todo } ∧
    exec (.rleflag true) s = .next { s with todo := .elem .rlemax :: s.todo } ∧
    exec (.rleflag false) s = .next { s with
      cm := { s.cm with mrlp := 0 }
      todo := .op (.hdReadcode s.cm.num) :: .act (.store .cm) :: .act .cmLoop :: s.todo } ∧
    exec (.rlemax m) s = .next { s with
      cm := { s.cm with mrlp := m + 1 }
      todo := .op (.hdReadcode (s.cm.num + (m + 1))) :: .act (.store .cm) :: .act .cmLoop :: s.todo }

/-- R185, R187, R188: symbols are read from `CM_TREE`; symbol 0 and a tree symbol write one entry inside the map, a run symbol asks for its extra bits, a run of `2^k + x` zeros moves on by its length up to the end of the map and past it raises `malformed-huffman(8)`; entries are read while the map is not full, then `IMTF`. The agenda (`todo`) is the model's form of the position inside a visit (notes/assumptions/1.md). -/
def Obligations.ContextMapEntries : Prop :=
  ∀ (s : State) (k x : Nat),
    s.elemFmt .cmsym = (lookupTable s.ht .cm).map (fun t => .cmsym t s.cm.mrlp) ∧ s.elemFmt .cmrun = some (.cmrun s.cm.k) ∧
    (s.cm.i < s.cm.m.length →
      exec .cmsymZero s = .next { s with cm := { s.cm with m := s.cm.m.set s.cm.i 0, i := s.cm.i + 1 } } ∧
      exec (.cmsymTree k) s = .next { s with
        cm := { s.cm with m := s.cm.m.set s.cm.i (BitVec.ofNat 8 (k - s.cm.mrlp)), i := s.cm.i + 1 } }) ∧
    exec (.cmsymRun k) s = .next { s with cm := { s.cm with k := k }, todo := .elem .cmrun :: s.todo } ∧
    (s.cm.i + (2 ^ k + x) ≤ s.cm.n →
      exec (.cmrun k x) s = .next { s with cm := { s.cm with i := s.cm.i + (2 ^ k + x) } }) ∧
    (s.cm.n < s.cm.i + (2 ^ k + x) → exec (.cmrun k x) s = .next (s.raise .malformedHuffman 8)) ∧
    (s.cm.i < s.cm.n → runAct .cmLoop s = .next { s with todo := .elem .cmsym :: .act .cmLoop :: s.todo }) ∧
    (s.cm.n ≤ s.cm.i → runAct .cmLoop s = .next { s with todo := .elem .imtf :: s.todo })

/-- R189: `IMTF` issues `CM.IMTF` when it is 1; the operation replaces the map by its inverse move-to-front, of the same length: with `mtf` at first 0, 1, .., 255, each entry `k` becomes `v = mtf[k]`, then `mtf[1 .. k] <- mtf[0 .. k-1]` and `mtf[0] <- v`; entries below a bound stay below it; the example of the rule. The agenda (`todo`) is the model's form of the position inside a visit (notes/assumptions/1.md). -/
def Obligations.InverseMoveToFront : Prop :=
  (∀ s : State, exec (.imtf true) s = .next { s with todo := .op .cmImtf :: s.todo } ∧ exec (.imtf false) s = .next s ∧
      exec .cmImtf s = .next { s with cm := { s.cm with m := imtf s.cm.m } }) ∧
    (∀ (m : List Byte), (imtf m).length = m.length ∧ ∃ mtf : Nat → Nat → Byte,
      (∀ j, j < 256 → mtf 0 j = BitVec.ofNat 8 j) ∧
      ∀ i k : Nat, i < m.length → k = (m.getD i 0).toNat →
        (imtf m)[i]? = some (mtf i k) ∧ mtf (i + 1) 0 = mtf i k ∧
        (∀ j, 1 ≤ j → j ≤ k → mtf (i + 1) j = mtf i (j - 1)) ∧
        (∀ j, k < j → j < 256 → mtf (i + 1) j = mtf i j)) ∧
    (∀ (m : List Byte) (n : Nat), (∀ k ∈ m, k.toNat < n) → ∀ v ∈ imtf m, v.toNat < n) ∧
    imtf [1, 1, 0, 2] = [1, 0, 0, 2]

/-- R253, R254: `HDR_CMAP_L` decodes a map of `64*NBT[L]` entries and stores it with its tree count, then goes to `HDR_CMAP_D`; that one decodes `4*NBT[D]` entries and goes to `HDR_TREES`. The agenda (`todo`) is the model's form of the position inside a visit (notes/assumptions/1.md). -/
def Obligations.ContextMapStates : Prop :=
  ∀ s : State,
    exec .cdHdrCmapL s = .next { s with todo := .op (.cmDecode (64 * s.blk.lit.nbt)) :: .act .cmEndL :: s.todo } ∧
    runAct .cmEndL s = .next { s with
      mb := { s.mb with ntreesL := s.cm.num }, cm := { s.cm with mapL := s.cm.m }, st := .hdrCmapD, todo := [] } ∧
    exec .cdHdrCmapD s = .next { s with todo := .op (.cmDecode (4 * s.blk.dist.nbt)) :: .act .cmEndD :: s.todo } ∧
    runAct .cmEndD s = .next { s with
      mb := { s.mb with ntreesD := s.cm.num }, cm := { s.cm with mapD := s.cm.m }, st := .hdrTrees, todo := [] }

/-- R238, R240, R241, R104: the header elements of a decode session, padding, and the `VARLEN8` patterns: what each writes, and what comes next; at the end of the length nibbles `MB.REM` is the length, and `ISUNCOMPRESSED` is read where the meta-block is not the final one or `P_UNCOMP_FLAG_IN_FINAL` holds, else the state follows `MB.UNCOMP`. `MNIBBLES`, the length nibbles, padding and the patterns are the same in a size query (R280). The agenda (`todo`) is the model's form of the position inside a visit (notes/assumptions/1.md). The result field `res` is the model's (notes/assumptions/26.md). -/
def Obligations.HeaderElements : Prop :=
  ∀ (s : State) (n x d : Nat),
    (s.q = false →
      exec (.islast true) s = .next { s with mb := { s.mb with last := true }, todo := .elem .isempty :: s.todo } ∧
      exec (.islast false) s = .next { s with mb := { s.mb with last := false }, todo := .elem .mnibbles :: s.todo } ∧
      exec (.isempty true) s = .next { s with st := .mbDone, todo := [] } ∧
      exec (.isempty false) s = .next { s with todo := .elem .mnibbles :: s.todo } ∧
      (s.mb.last = false ∨ s.par.uncompFlagInFinal = true → runAct .endLen s = .next { s with
        mb := { s.mb with rem := s.visit.lenAcc + 1 }, todo := .elem .isuncompressed :: s.todo }) ∧
      (s.mb.last = true → s.par.uncompFlagInFinal = false → runAct .endLen s = .next { s with
        mb := { s.mb with rem := s.visit.lenAcc + 1 }
        st := if s.mb.uncomp = true then .uncompressedCopy else .hdrBlocks, todo := [] }) ∧
      exec (.isuncompressed true) s = .next { s with
        mb := { s.mb with uncomp := true }, st := .uncompressedCopy, todo := [] } ∧
      exec (.isuncompressed false) s = .next { s with mb := { s.mb with uncomp := false }, st := .hdrBlocks, todo := [] }) ∧
    exec (.mnibbles n) s = .next { s with
      visit := { s.visit with nibI := 0, lenAcc := 0 }
      todo := List.replicate (4 + n) (.elem .mlenNibble) ++ .act .endLen :: s.todo } ∧
    (d < 16 → s.visit.lenAcc < 16 ^ s.visit.nibI → exec (.mlenNibble d) s = .next { s with
      visit := { s.visit with lenAcc := s.visit.lenAcc + d * 16 ^ s.visit.nibI, nibI := s.visit.nibI + 1 } }) ∧
    exec (.pad n x) s = .next s ∧
    exec .varlen8Zero s = .next { s with res := { s.res with val := 0 } } ∧
    exec .varlen8One s = .next { s with res := { s.res with val := 1 } } ∧
    exec (.varlen8N n x) s = .next { s with res := { s.res with val := 2 ^ n + x } }

/-- R105: the length nibbles of a meta-block, first nibble least significant, give `MLEN = 1 + sum of nibble_i * 16^i`, from 1 to 2^28; high nibbles may be zero. In a decode session the length is left in `MB.REM`, in a size query (R280) in the local `size` of the query, which stands in `visit` (notes/assumptions/21.md). -/
def Obligations.MetaBlockLength : Prop :=
  ∀ (s : State) (ds : List Nat) (len : Nat), s.visit.nibI = 0 → s.visit.lenAcc = 0 → (∀ d ∈ ds, d < 16) →
    4 ≤ ds.length → ds.length ≤ 7 → len = 1 + ((List.range ds.length).map fun i => ds.getD i 0 * 16 ^ i).sum →
    1 ≤ len ∧ len ≤ 2 ^ 28 ∧ ∃ t u,
      execAll (ds.map .mlenNibble) s = .next t ∧ runAct .endLen t = .next u ∧
      (s.q = false → u.mb.rem = len) ∧ (s.q = true → u.visit.qSize = len ∧ u.mb = s.mb) ∧ u.br = s.br ∧ u.rb = s.rb

/-- R280: the header elements of a size query: an empty final block returns 0, a final block its length (without the stored-uncompressed flag), a stored block that an empty final one follows its length (its flag is read and its bytes are skipped), anything else is `size-unknown`; `MNIBBLES` and the length nibbles are read as in a decode session; no meta-block register is written. The agenda (`todo`) is the model's form of the position inside a visit (notes/assumptions/1.md). The locals of the query stand in `visit` (notes/assumptions/21.md). -/
def Obligations.SizeQueryElements : Prop :=
  ∀ (s : State) (n d : Nat), s.q = true →
    exec (.mnibbles n) s = .next { s with
      visit := { s.visit with nibI := 0, lenAcc := 0 }
      todo := List.replicate (4 + n) (.elem .mlenNibble) ++ .act .endLen :: s.todo } ∧
    (d < 16 → s.visit.lenAcc < 16 ^ s.visit.nibI → exec (.mlenNibble d) s = .next { s with
      visit := { s.visit with lenAcc := s.visit.lenAcc + d * 16 ^ s.visit.nibI, nibI := s.visit.nibI + 1 } }) ∧
    (s.visit.qTail = false →
      exec (.islast true) s = .next { s with
        visit := { s.visit with qLast := true }, todo := .elem .isempty :: s.todo } ∧
      exec (.islast false) s = .next { s with
        visit := { s.visit with qLast := false }, todo := .elem .mnibbles :: s.todo } ∧
      exec (.isempty true) s = .next { s with qsize := 0, st := .finished, todo := [] } ∧
      exec (.isempty false) s = .next { s with todo := .elem .mnibbles :: s.todo }) ∧
    (s.visit.qTail = true →
      exec (.islast true) s = .next { s with todo := .elem .isempty :: s.todo } ∧
      exec (.islast false) s = .next (s.raise .sizeUnknown 0) ∧
      exec (.isempty true) s = .next { s with qsize := s.visit.qSize, st := .finished, todo := [] } ∧
      exec (.isempty false) s = .next (s.raise .sizeUnknown 0)) ∧
    (s.visit.qLast = true → runAct .endLen s = .next { s with
      visit := { s.visit with qSize := s.visit.lenAcc + 1 }, qsize := s.visit.lenAcc + 1, st := .finished, todo := [] }) ∧
    (s.visit.qLast = false → runAct .endLen s = .next { s with
      visit := { s.visit with qSize := s.visit.lenAcc + 1 }, todo := .elem .isuncompressed :: s.todo }) ∧
    exec (.isuncompressed false) s = .next (s.raise .sizeUnknown 0) ∧
    exec (.isuncompressed true) s = .next { s with
      visit := { s.visit with qCnt := s.visit.qSize }, todo := .op .brAlign :: .act .skipStored :: s.todo } ∧
    (s.visit.qCnt ≠ 0 → runAct .skipStored s = .next { s with
      visit := { s.visit with qCnt := s.visit.qCnt - 1 }, todo := .op (.brDrop 8) :: .act .skipStored :: s.todo }) ∧
    (s.visit.qCnt = 0 → runAct .skipStored s = .next { s with
      visit := { s.visit with qTail := true }, todo := .elem .islast :: s.todo })

/-- R243, R244, R245, R250: the elements of a compressed-body header: block-type counts with what they announce, the first block length, read with `BL_TREE[c]`, the distance parameters, the context modes. The agenda (`todo`) is the model's form of the position inside a visit (notes/assumptions/1.md). -/
def Obligations.BodyHeaderElements : Prop :=
  ∀ (s : State) (v code x p d : Nat),
    (∀ c, runAct (.beginCat c) s = .next { s with visit := { s.visit with cat := c }, todo := .elem .nbltypes :: s.todo }) ∧
    (v = 0 → exec (.nbltypes v) s = .next { s with
      blk := s.blk.set s.visit.cat { s.blk.get s.visit.cat with nbt := 1 } }) ∧
    (1 ≤ v → exec (.nbltypes v) s = .next { s with
      blk := s.blk.set s.visit.cat { s.blk.get s.visit.cat with nbt := v + 1 }
      todo := .op (.hdReadcode (v + 1 + 2)) :: .act (.store (.bt s.visit.cat)) :: .op (.hdReadcode 26) ::
        .act (.store (.bl s.visit.cat)) :: .elem .blenFirst :: s.todo }) ∧
    s.elemFmt .blenFirst = (lookupTable s.ht (.bl s.visit.cat)).map .blenFirst ∧
    exec (.blenFirst code x) s = .next { s with
      blk := s.blk.set s.visit.cat { s.blk.get s.visit.cat with blen := blenOff code + x } } ∧
    exec (.npostfix p) s = .next { s with mb := { s.mb with npostfix := p } } ∧
    exec (.ndirectHi d) s = .next { s with mb := { s.mb with
      numdirect := 16 + d * 2 ^ s.mb.npostfix
      ndist := 16 + d * 2 ^ s.mb.npostfix + 48 * 2 ^ s.mb.npostfix } } ∧
    ∀ i m, (i, m) ∈ [(Instr.cmodeLsb6, 0), (.cmodeMsb6, 1), (.cmodeUtf8, 2), (.cmodeSigned, 3)] →
      exec i s = .next { s with
        mb := { s.mb with cmode := s.mb.cmode.set s.visit.ctxI m }
        visit := { s.visit with ctxI := s.visit.ctxI + 1 } }

/-- R251, R252, R110: the three block-type codes give the block type before the current one, the next one, or `k - 2`, less `NBT` where it reaches that, and the current type moves to the older slot; with one block type nothing is read or counted; with more, a block with symbols left loses one, and one that is used up is switched first, by a symbol of `BT_TREE[c]` and a block length of `BL_TREE[c]`. The agenda (`todo`) is the model's form of the position inside a visit (notes/assumptions/1.md). -/
def Obligations.BlockSwitch : Prop :=
  (∀ (s : State) (k : Nat) (b : Blk), b = s.blk.get s.visit.cat →
    exec .btsymPrev s = .next { s with blk := s.blk.set s.visit.cat { b with
      prev2 := b.cur, cur := if b.nbt ≤ b.prev2 then b.prev2 - b.nbt else b.prev2 } } ∧
    exec .btsymNext s = .next { s with blk := s.blk.set s.visit.cat { b with
      prev2 := b.cur, cur := if b.nbt ≤ b.cur + 1 then b.cur + 1 - b.nbt else b.cur + 1 } } ∧
    exec (.btsymExplicit k) s = .next { s with blk := s.blk.set s.visit.cat { b with
      prev2 := b.cur, cur := if b.nbt ≤ k - 2 then k - 2 - b.nbt else k - 2 } }) ∧
  (∀ (s : State) (c : Cat),
    ((s.blk.get c).nbt < 2 → runAct (.tick c) s = .next { s with visit := { s.visit with cat := c } }) ∧
    (2 ≤ (s.blk.get c).nbt → (s.blk.get c).blen ≠ 0 → runAct (.tick c) s = .next { s with
      visit := { s.visit with cat := c }
      blk := s.blk.set c { s.blk.get c with blen := (s.blk.get c).blen - 1 } }) ∧
    (2 ≤ (s.blk.get c).nbt → (s.blk.get c).blen = 0 → runAct (.tick c) s = .next { s with
      visit := { s.visit with cat := c }
      todo := .elem .btsym :: .elem .blen :: .act (.tickDown c) :: s.todo }) ∧
    (s.visit.cat = c → s.elemFmt .btsym = (lookupTable s.ht (.bt c)).map .btsym ∧
      s.elemFmt .blen = (lookupTable s.ht (.bl c)).map .blen) ∧
    runAct (.tickDown c) s = .next { s with
      blk := s.blk.set c { s.blk.get c with blen := (s.blk.get c).blen - 1 } })

/-- R246, R250: each of the 26 block length codes sets `BLEN[c]` of the category at work to its offset plus the extra bits. -/
def Obligations.BlockLengths : Prop :=
  ∀ (s : State) (x off : Nat) (i : Instr), (i, off) ∈ [
      (Instr.blen0 x, 1), (.blen1 x, 5), (.blen2 x, 9), (.blen3 x, 13), (.blen4 x, 17), (.blen5 x, 25),
      (.blen6 x, 33), (.blen7 x, 41), (.blen8 x, 49), (.blen9 x, 65), (.blen10 x, 81), (.blen11 x, 97),
      (.blen12 x, 113), (.blen13 x, 145), (.blen14 x, 177), (.blen15 x, 209), (.blen16 x, 241), (.blen17 x, 305),
      (.blen18 x, 369), (.blen19 x, 497), (.blen20 x, 753), (.blen21 x, 1265), (.blen22 x, 2289), (.blen23 x, 4385),
      (.blen24 x, 8481), (.blen25 x, 16625)] →
    exec i s = .next { s with blk := s.blk.set s.visit.cat { s.blk.get s.visit.cat with blen := off + x } }

/-- R108, R257: a command symbol is read from `TG.I[BT_CUR[I]]`; each of the 11 cells gives its insert and copy codes and says whether the distance is implicit; the extra bits of both lengths follow, insert first, then the insert check. The agenda (`todo`) is the model's form of the position inside a visit (notes/assumptions/1.md). -/
def Obligations.CommandCells : Prop :=
  ∀ (s : State) (a c ib cb : Nat) (imp : Bool) (i : Instr), (i, ib, cb, imp) ∈ [
      (Instr.cmdsymCell0 a c, 0, 0, true), (.cmdsymCell1 a c, 0, 8, true), (.cmdsymCell2 a c, 0, 0, false),
      (.cmdsymCell3 a c, 0, 8, false), (.cmdsymCell4 a c, 8, 0, false), (.cmdsymCell5 a c, 8, 8, false),
      (.cmdsymCell6 a c, 0, 16, false), (.cmdsymCell7 a c, 16, 0, false), (.cmdsymCell8 a c, 8, 16, false),
      (.cmdsymCell9 a c, 16, 8, false), (.cmdsymCell10 a c, 16, 16, false)] →
    exec i s = .next { s with
      visit := { s.visit with insCode := ib + a, cpyCode := cb + c, implicit := imp }
      todo := .elem .ins :: .elem .cpy :: .act .cmdHeaderEnd :: s.todo } ∧
    s.elemFmt .cmdsym = (lookupTable s.ht (.tgI s.blk.cmd.cur)).map .cmdsym ∧
    s.elemFmt .ins = some (.ins s.visit.insCode) ∧ s.elemFmt .cpy = some (.cpy s.visit.cpyCode)

/-- R247, R248, R257: each of the 24 insert length codes sets `CMD.INS`, and each of the 24 copy length codes sets `CMD.CPY`, to its offset plus the extra bits. -/
def Obligations.InsertAndCopyLengths : Prop :=
  (∀ (s : State) (x n : Nat) (i : Instr), (i, n) ∈ [
      (Instr.ins0, 0), (.ins1, 1), (.ins2, 2), (.ins3, 3), (.ins4, 4), (.ins5, 5), (.ins6 x, 6 + x),
      (.ins7 x, 8 + x), (.ins8 x, 10 + x), (.ins9 x, 14 + x), (.ins10 x, 18 + x), (.ins11 x, 26 + x),
      (.ins12 x, 34 + x), (.ins13 x, 50 + x), (.ins14 x, 66 + x), (.ins15 x, 98 + x), (.ins16 x, 130 + x),
      (.ins17 x, 194 + x), (.ins18 x, 322 + x), (.ins19 x, 578 + x), (.ins20 x, 1090 + x), (.ins21 x, 2114 + x),
      (.ins22 x, 6210 + x), (.ins23 x, 22594 + x)] →
    exec i s = .next { s with cmd := { s.cmd with ins := n } }) ∧
  (∀ (s : State) (x n : Nat) (i : Instr), (i, n) ∈ [
      (Instr.cpy0, 2), (.cpy1, 3), (.cpy2, 4), (.cpy3, 5), (.cpy4, 6), (.cpy5, 7), (.cpy6, 8), (.cpy7, 9),
      (.cpy8 x, 10 + x), (.cpy9 x, 12 + x), (.cpy10 x, 14 + x), (.cpy11 x, 18 + x), (.cpy12 x, 22 + x),
      (.cpy13 x, 30 + x), (.cpy14 x, 38 + x), (.cpy15 x, 54 + x), (.cpy16 x, 70 + x), (.cpy17 x, 102 + x),
      (.cpy18 x, 134 + x), (.cpy19 x, 198 + x), (.cpy20 x, 326 + x), (.cpy21 x, 582 + x), (.cpy22 x, 1094 + x),
      (.cpy23 x, 2118 + x)] →
    exec i s = .next { s with cmd := { s.cmd with cpy := n } })

/-- R257, R258: at the end of a command header `CMD.DCODE` is 0 for an implicit distance and -1 else; an insert longer than what remains raises `invalid-backward-reference(2)`, before the first literal; else the literals follow. The agenda (`todo`) is the model's form of the position inside a visit (notes/assumptions/1.md). -/
def Obligations.InsertCheck : Prop :=
  ∀ (s t : State), t = { s with cmd := { s.cmd with dcode := if s.visit.implicit = true then 0 else -1 } } →
    (s.mb.rem < s.cmd.ins → runAct .cmdHeaderEnd s = .next (t.raise .invalidBackwardReference 2)) ∧
    (s.cmd.ins ≤ s.mb.rem → runAct .cmdHeaderEnd s = .next { t with st := .cmdLiteral, todo := [] })

/-- R262, R260, R263: the literal context of the four modes, by the formulas of the rule, the context tables being arguments; with the default tables it is 0 .. 63; with the last byte produced as `p1` and the one before as `p2` it picks the table of the next literal, `TG.L[CMAP_L[64*BT_CUR[L] + ctx]]`. That the tables are fields of `par` is the model's form (notes/assumptions/12.md), and their default contents are the model's choice of the stated ones (notes/assumptions/10.md). -/
def Obligations.LiteralContextModes : Prop :=
  ∀ (p : Config.Params) (p1 p2 : Byte),
    literalContext p 0 p1 p2 = p1.toNat &&& 0x3F ∧
    literalContext p 1 p1 p2 = p1.toNat >>> 2 ∧
    literalContext p 2 p1 p2 = p.ctxLut0.getD p1.toNat 0 ||| p.ctxLut1.getD p2.toNat 0 ∧
    literalContext p 3 p1 p2 = (p.ctxLut2.getD p1.toNat 0 <<< 3) ||| p.ctxLut2.getD p2.toNat 0 ∧
    (∀ mode, mode < 4 → literalContext Config.Params.default mode p1 p2 < 64) ∧
    (Config.Params.default.ctxLut0.getD p1.toNat 0 = ctxLut0 p1.toNat ∧
      Config.Params.default.ctxLut1.getD p1.toNat 0 = ctxLut1 p1.toNat ∧
      Config.Params.default.ctxLut2.getD p1.toNat 0 = ctxLut2 p1.toNat) ∧
    ∀ (s : State) (mode : Nat) (tree : Byte), s.par = p → p1 = s.rb.p1 → p2 = s.rb.p2 →
      s.mb.cmode[s.blk.lit.cur]? = some mode →
      s.cm.mapL[64 * s.blk.lit.cur + literalContext p mode p1 p2]? = some tree →
      s.elemFmt .literal = (lookupTable s.ht (.tgL tree.toNat)).map .literal

/-- R199, R70, R241, R260: `RB.PUT`, a stored byte and a literal complete; the byte goes to cell `RB.POS mod SIZE` and no other cell changes (in the canonical form of the cells, which every step keeps), the two previous bytes and the position follow, the flush of a full ring comes next, then the rest of the visit; nothing else changes. That the counts of a stored byte and of a literal (`rawDone`, `litDone`) come after the flush is the model's reading of R260 (notes/assumptions/7.md); the list of cells with its canonical form is the model's (notes/assumptions/5.md). The agenda (`todo`) is the model's form of the position inside a visit (notes/assumptions/1.md). -/
def Obligations.PutBytes : Prop :=
  ∀ (s : State) (b : Byte) (i : Instr) (after : List Todo),
    (i, after) ∈ [(Instr.rbPut b, []), (.rawbyte b, [Todo.act .rawDone]), (.literal b, [Todo.act .litDone])] →
    ∃ r : Ring, exec i s = .next { s with
        rb := r
        todo := (if (s.rb.pos + 1) % 2 ^ s.rb.winBits = 0 then [Todo.op .rbFlush] else []) ++ after ++ s.todo } ∧
      r.pos = s.rb.pos + 1 ∧ r.p1 = b ∧ r.p2 = s.rb.p1 ∧ r.winBits = s.rb.winBits ∧
      (Mem.wf s.rb.mem = true → Mem.wf r.mem = true ∧ memRead r.mem (s.rb.pos % 2 ^ s.rb.winBits) = b ∧
        ∀ a, a ≠ s.rb.pos % 2 ^ s.rb.winBits → memRead r.mem a = memRead s.rb.mem a)

/-- R241, R260, R270, R274: after the put of a byte the count of what remains goes down by one, with the count of its source, and the visit ends as the rule of its state says. The agenda (`todo`) is the model's form of the position inside a visit (notes/assumptions/1.md). That the counts come after the flush of the put is the model's reading (notes/assumptions/7.md); that a count of 0 stays 0 and ends the visit, in states that no run reaches, is its choice (notes/assumptions/16.md). -/
def Obligations.ByteCounts : Prop :=
  ∀ s : State,
    runAct .rawDone s = .next { s with
      mb := { s.mb with rem := s.mb.rem - 1 }
      st := if s.mb.rem ≤ 1 then .mbDone else .uncompressedCopy, todo := [] } ∧
    runAct .litDone s = .next { s with
      cmd := { s.cmd with ins := s.cmd.ins - 1 }, mb := { s.mb with rem := s.mb.rem - 1 } } ∧
    (1 < s.cmd.cpyrem → runAct .copyDone s = .next { s with
      cmd := { s.cmd with cpyrem := s.cmd.cpyrem - 1 }, mb := { s.mb with rem := s.mb.rem - 1 } }) ∧
    (s.cmd.cpyrem ≤ 1 → runAct .copyDone s = .next { s with
      cmd := { s.cmd with cpyrem := 0 }, mb := { s.mb with rem := s.mb.rem - 1 }, st := .cmdEnd, todo := [] }) ∧
    runAct .dictDone s = .next { s with
      sd := { s.sd with outidx := s.sd.outidx + 1 }, mb := { s.mb with rem := s.mb.rem - 1 } }

/-- R196, R200, R201, R270, R274, R70: for a distance inside the valid window `RB.GET` returns the byte of its cell, a copy and a visit of `CMD_COPY_WINDOW` put it, and the copy goes on with one byte less; a copy of nothing does nothing; a distance outside the window stops. A visit of `CMD_COPY_DICT` puts the next byte of the word, and with none left goes to `CMD_END`. What a cell that nothing has written reads as is the model's choice (notes/assumptions/5.md). The stop is the model's own (notes/assumptions/20.md). The agenda (`todo`) is the model's form of the position inside a visit (notes/assumptions/1.md). The result field `res` is the model's (notes/assumptions/26.md). -/
def Obligations.WindowAndDictionaryCopies : Prop :=
  (∀ (s : State) (d n : Nat) (b : Byte),
    exec (.rbCopy d 0) s = .next s ∧
    (¬ (1 ≤ d ∧ d ≤ min s.rb.pos (2 ^ s.rb.winBits - s.par.windowGap)) → exec (.rbGet d) s = .fault .outsideSpace) ∧
    (1 ≤ d → d ≤ min s.rb.pos (2 ^ s.rb.winBits - s.par.windowGap) →
      memRead s.rb.mem ((s.rb.pos - d) % 2 ^ s.rb.winBits) = b →
      exec (.rbGet d) s = .next { s with res := { s.res with val := b.toNat } } ∧
      exec (.rbCopy d (n + 1)) s = .next (s.rbPut b [.op (.rbCopy d n)]) ∧
      (s.cmd.dist = d → exec .cdCmdCopyWindow s = .next (s.rbPut b [.act .copyDone])))) ∧
  (∀ (s : State) (b : Byte),
    (s.sd.outidx = s.sd.outlen → exec .cdCmdCopyDict s = .next { s with st := .cmdEnd, todo := [] }) ∧
    (s.sd.outidx ≠ s.sd.outlen → s.sd.out[s.sd.outidx]? = some b →
      exec .cdCmdCopyDict s = .next (s.rbPut b [.act .dictDone])))

/-- R203, R204, R302: a wrap flush offers the whole ring as one chunk, the final flush the residue, byte `k` of the chunk being cell `k`; with no residue nothing is offered; nothing else changes. That CD.ST tells the two flushes apart is the model's reading (notes/assumptions/27.md). -/
def Obligations.FlushChunks : Prop :=
  ∀ (s : State),
    (s.st = .flush → s.rb.pos % 2 ^ s.rb.winBits = 0 → exec .rbFlush s = .next s) ∧
    (∀ (n : Nat) (chunk : List Byte),
      n = (if s.st = .flush then s.rb.pos % 2 ^ s.rb.winBits else 2 ^ s.rb.winBits) → n ≠ 0 → chunk.length = n →
      (∀ k, k < n → chunk[k]? = some (memRead s.rb.mem k)) →
      exec .rbFlush s = .next { s with snk := { s.snk with offer := some chunk } })

/-- R109, R264, R266: each of the 16 short distance codes resolves to the ring slot and offset of its row, and an implicit distance (code 0, no symbol read) to the last distance; a result of 0 or below raises `invalid-backward-reference(1)`. -/
def Obligations.ShortDistances : Prop :=
  (∀ (s : State) (i : Instr) (c : Nat) (idx : BitVec 2) (val d : Int), (i, c, idx, val) ∈ [
      (Instr.distsymShort0, 0, 3, 0), (.distsymShort1, 1, 2, 0), (.distsymShort2, 2, 1, 0),
      (.distsymShort3, 3, 0, 0), (.distsymShort4, 4, 3, -1), (.distsymShort5, 5, 3, 1), (.distsymShort6, 6, 3, -2),
      (.distsymShort7, 7, 3, 2), (.distsymShort8, 8, 3, -3), (.distsymShort9, 9, 3, 3), (.distsymShort10, 10, 2, -1),
      (.distsymShort11, 11, 2, 1), (.distsymShort12, 12, 2, -2), (.distsymShort13, 13, 2, 2),
      (.distsymShort14, 14, 2, -3), (.distsymShort15, 15, 2, 3)] →
    d = (([s.dr.d0, s.dr.d1, s.dr.d2, s.dr.d3].getD (s.dr.idx + idx).toNat 0 : Nat) : Int) + val →
    (0 < d → exec i s = .next { s with cmd := { s.cmd with dcode := c, dist := d.toNat } }) ∧
    (d ≤ 0 → exec i s =
      .next (State.raise .invalidBackwardReference 1 { s with cmd := { s.cmd with dcode := c } }))) ∧
  ∀ (s : State) (d : Nat), s.cmd.dcode = 0 → d = [s.dr.d0, s.dr.d1, s.dr.d2, s.dr.d3].getD (s.dr.idx + 3).toNat 0 →
    (0 < d → runAct .resolve s = .next { s with cmd := { s.cmd with dist := d } }) ∧
    (d = 0 → runAct .resolve s = .next (s.raise .invalidBackwardReference 1))

/-- R109, R264, R265, R266: a distance symbol is read from `TG.D[CMAP_D[4*BT_CUR[D] + dctx]]`, `dctx` being 0, 1, 2, 3 for a copy length of 2, 3, 4, more; a direct code is the distance plus 15; a long symbol asks for its extra bits, whose number and the resulting distance code follow the postfix-width rule. The agenda (`todo`) is the model's form of the position inside a visit (notes/assumptions/1.md). -/
def Obligations.DirectAndLongDistances : Prop :=
  (∀ (s : State) (dctx : Nat) (tree : Byte), dctx = (if 4 < s.cmd.cpy then 3 else s.cmd.cpy - 2) →
    s.cm.mapD[4 * s.blk.dist.cur + dctx]? = some tree →
    s.elemFmt .distsym = (lookupTable s.ht (.tgD tree.toNat)).map fun t => .distsym t s.mb.numdirect) ∧
  ∀ (s : State) (c x nb : Nat), 16 ≤ s.mb.numdirect →
    (16 ≤ c → exec (.distsymDirect c) s = .next { s with cmd := { s.cmd with dcode := c, dist := c - 15 } }) ∧
    exec (.distsymLong c) s = .next { s with visit := { s.visit with dsym := c }, todo := .elem .distExtra :: s.todo } ∧
    (∀ d h code, d = s.visit.dsym - s.mb.numdirect → h = d / 2 ^ s.mb.npostfix →
      code = s.mb.numdirect + ((2 + h % 2) * 2 ^ (h / 2 + 1) - 4 + x) * 2 ^ s.mb.npostfix + d % 2 ^ s.mb.npostfix →
      exec (.distExtra nb x) s = .next { s with cmd := { s.cmd with dcode := code, dist := code - 15 } } ∧
      s.elemFmt .distExtra = some (.distExtra (h / 2 + 1)))

/-- R264, R267, R268, R269: a distance within `max_distance` is a window copy: longer than what remains it raises `invalid-backward-reference(3)` before the ring of distances changes, else its distance is pushed unless the code is 0 and `CMD_COPY_WINDOW` follows; any other distance is a dictionary reference, whose word is then checked. The agenda (`todo`) is the model's form of the position inside a visit (notes/assumptions/1.md). -/
def Obligations.WindowOrDictionary : Prop :=
  ∀ (s t : State),
    t = { s with cmd := { s.cmd with maxd := min s.rb.pos (2 ^ s.rb.winBits - s.par.windowGap) } } →
    (s.cmd.dist ≤ t.cmd.maxd → s.mb.rem < s.cmd.cpy →
      runAct .classify s = .next (t.raise .invalidBackwardReference 3)) ∧
    (s.cmd.dist ≤ t.cmd.maxd → s.cmd.cpy ≤ s.mb.rem → ∃ dr, runAct .classify s = .next { t with
        dr := dr, cmd := { t.cmd with cpyrem := s.cmd.cpy }, st := .cmdCopyWindow, todo := [] } ∧
      (s.cmd.dcode ≤ 0 → dr = s.dr) ∧
      (0 < s.cmd.dcode → dr.idx = s.dr.idx + 1 ∧
        [dr.d0, dr.d1, dr.d2, dr.d3] = [s.dr.d0, s.dr.d1, s.dr.d2, s.dr.d3].set s.dr.idx.toNat s.cmd.dist)) ∧
    (t.cmd.maxd < s.cmd.dist → runAct .classify s = .next { t with
        todo := .op (.sdLookup s.cmd.cpy (s.cmd.dist - t.cmd.maxd - 1)) :: .act .dictCheck :: s.todo }) ∧
    (s.mb.rem < s.sd.outlen → runAct .dictCheck s = .next (s.raise .invalidBackwardReference 4)) ∧
    (s.sd.outlen ≤ s.mb.rem → runAct .dictCheck s = .next { s with st := .cmdCopyDict, todo := [] })

/-- R217, R218, R219: a length outside 4 .. 24 raises `invalid-dictionary-reference(1)`, then a transform index of `N_TRANSFORMS` (121 with the default table) or more raises sub-code 2; else the word of the low bits, changed by the transform of the high bits, is left in `SD.OUT`, and nothing else changes; the size classes and their addresses. `TRANSFORM_ROM` is a field of `par` (notes/assumptions/12.md); the size classes are the stated defaults (notes/assumptions/10.md). -/
def Obligations.DictionaryLookup : Prop :=
  (∀ (s : State) (len wid : Nat),
    (len < 4 ∨ 24 < len → exec (.sdLookup len wid) s = .next (s.raise .invalidDictionaryReference 1)) ∧
    (4 ≤ len → len ≤ 24 → s.par.transforms.length ≤ wid / 2 ^ dictBits len →
      exec (.sdLookup len wid) s = .next (s.raise .invalidDictionaryReference 2)) ∧
    (4 ≤ len → len ≤ 24 → ∀ x w, s.par.transforms[wid / 2 ^ dictBits len]? = some x →
      w = x.pre ++ applyKind x.kind ((List.range len).map fun k =>
        Config.dictRom (dictOff len + wid % 2 ^ dictBits len * len + k)) ++ x.post →
      exec (.sdLookup len wid) s = .next { s with sd := { out := w, outlen := w.length, outidx := 0 } })) ∧
  Config.Params.default.transforms.length = 121 ∧
  ((List.range 21).map fun k => dictBits (k + 4)) =
    [10, 10, 11, 11, 10, 10, 10, 10, 10, 9, 9, 8, 7, 7, 8, 7, 7, 6, 6, 5, 5] ∧
  dictOff 4 = 0 ∧ (∀ len, 4 ≤ len → len < 24 → dictOff (len + 1) = dictOff len + len * 2 ^ dictBits len) ∧
  dictOff 24 + 24 * 2 ^ dictBits 24 = 122784

/-- R220, R221, R222, R223: `SD.TRANSFORM` of a transform index inside the table returns the bytes before, the changed word and the bytes after; the effect of each kind on a word: identity, without the last or first `k` bytes, `upper` once, `upper` over the whole word (for a `k` above 9 or of 0 too, which no kind of R221 has: notes/assumptions/12.md); `upper` by the first byte of the character; with the default table the result has at most 13 bytes more than the word; the example of the rule. `TRANSFORM_ROM` is a field of `par` (notes/assumptions/12.md); its default contents are the stated ones (notes/assumptions/10.md). The result field `res` is the model's (notes/assumptions/26.md). -/
def Obligations.DictionaryTransforms : Prop :=
  (∀ (s : State) (w : List Byte) (k : Nat) (x : Xform), s.par.transforms[k]? = some x →
    exec (.sdTransform w k) s = .next { s with res := { s.res with bytes := x.pre ++ applyKind x.kind w ++ x.post } }) ∧
  (∀ x ∈ Config.Params.default.transforms, ∀ w, (x.pre ++ applyKind x.kind w ++ x.post).length ≤ 5 + w.length + 8) ∧
  (∀ (w : List Byte) (k : Nat), applyKind .identity w = w ∧
    (∃ tail, w = applyKind (.omitLast k) w ++ tail ∧ tail.length = min k w.length) ∧
    (∃ head, w = head ++ applyKind (.omitFirst k) w ∧ head.length = min k w.length)) ∧
  (∀ (w : List Byte) (i : Nat) (c : Byte), w[i]? = some c →
    (c.toNat < 0xC0 → ¬ (0x61 ≤ c.toNat ∧ c.toNat ≤ 0x7A) → upper w i = (w, 1)) ∧
    (0x61 ≤ c.toNat → c.toNat ≤ 0x7A → upper w i = (w.set i (c ^^^ 0x20), 1)) ∧
    (0xC0 ≤ c.toNat → c.toNat < 0xE0 → upper w i = (w.set (i + 1) (w.getD (i + 1) 0 ^^^ 0x20), 2)) ∧
    (0xE0 ≤ c.toNat → upper w i = (w.set (i + 2) (w.getD (i + 2) 0 ^^^ 0x05), 3))) ∧
  applyKind .uppercaseFirst [] = [] ∧ (∀ c w, applyKind .uppercaseFirst (c :: w) = (upper (c :: w) 0).1) ∧
  (∀ w : List Byte, ∃ (n : Nat) (ws : Nat → List Byte) (at_ : Nat → Nat), ws 0 = w ∧ at_ 0 = 0 ∧
    (∀ j, j < n → at_ j < w.length ∧ ws (j + 1) = (upper (ws j) (at_ j)).1 ∧
      at_ (j + 1) = at_ j + (upper (ws j) (at_ j)).2) ∧
    w.length ≤ at_ n ∧ applyKind .uppercaseAll w = ws n) ∧
  applyKind .uppercaseAll [0xC3, 0xA9, 0x61, 0xE2, 0x82, 0xAC, 0x62] = [0xC3, 0x89, 0x41, 0xE2, 0x82, 0xA9, 0x42] ∧
  applyKind .uppercaseFirst [0xE2, 0x82] = [0xE2, 0x82]

/-- R235, R236, R280, R26, R320: `START` with a legal `CFG.WBITS` and no session running resets every item, latches the window bits and goes to `MB_BEGIN`, else nothing happens; `SIZEQ` with no session running resets and goes to `MB_HEADER` with `CD.Q` set, else nothing happens; `ABORT` resets at any time; the writes to `CTRL` do the same. After a reset every item has the value R320 gives it. What R320 leaves unspecified is 0 in the reset state that these steps go to, the model's choice (notes/assumptions/3.md); that the cells of `RB.MEM` stay is its reading of R235 (notes/assumptions/17.md). The agenda (`todo`) is the model's form of the position inside a visit (notes/assumptions/1.md). That the accepted chunks stay is notes/assumptions/18.md. -/
def Obligations.SessionControl : Prop :=
  ∀ s : State,
    (s.st.noSession = true → 10 ≤ s.wbits.toNat → s.wbits.toNat ≤ 24 → ∃ t,
      exec .opStart s = .next t ∧ exec .ctrlStart s = .next t ∧
      t = { s.sessionReset with rb := { s.sessionReset.rb with winBits := s.wbits.toNat }, st := .mbBegin }) ∧
    (s.st.noSession = false ∨ s.wbits.toNat < 10 ∨ 24 < s.wbits.toNat →
      exec .opStart s = .next s ∧ exec .ctrlStart s = .next s) ∧
    (s.st.noSession = true → exec .opSizeq s = .next { s.sessionReset with q := true, st := .mbHeader } ∧
      exec .ctrlSizeq s = .next { s.sessionReset with q := true, st := .mbHeader }) ∧
    (s.st.noSession = false → exec .opSizeq s = .next s ∧ exec .ctrlSizeq s = .next s) ∧
    exec .opAbort s = .next s.sessionReset ∧ exec .ctrlAbort s = .next s.sessionReset ∧
    ∀ t, t = s.sessionReset → t.st = .idle ∧ t.todo = [] ∧ t.q = false ∧ t.qsize = 0 ∧ t.err = { kind := .none, sub := 0 } ∧
      t.br = State.reset.br ∧ t.br.input = [] ∧ t.br.cur = 0 ∧ t.br.eos = false ∧ t.br.srcErr = false ∧ t.br.bytepos = 0 ∧
      (∀ r, lookupTable t.ht r = none) ∧ t.cm.mapL = [] ∧ t.cm.mapD = [] ∧
      (∀ c, t.blk.get c = { nbt := 1, cur := 0, prev2 := 1, blen := 0 }) ∧
      t.dr = { d0 := 16, d1 := 15, d2 := 11, d3 := 4, idx := 0 } ∧
      t.rb.pos = 0 ∧ t.rb.p1 = 0 ∧ t.rb.p2 = 0 ∧ t.rb.mem = s.rb.mem ∧
      t.mb.last = false ∧ t.mb.uncomp = false ∧ t.mb.rem = 0 ∧ t.mb.npostfix = 0 ∧ t.mb.numdirect = 16 ∧
      t.mb.ndist = 64 ∧ t.mb.ntreesL = 1 ∧ t.mb.ntreesD = 1 ∧
      t.cmd = { ins := 0, cpy := 0, cpyrem := 0, dcode := 0, dist := 0, maxd := 0 } ∧
      t.sd = { out := [], outlen := 0, outidx := 0 } ∧
      t.snk.offer = none ∧ t.snk.out = s.snk.out ∧ t.wbits = s.wbits ∧ t.par = s.par ∧ t.env = s.env

/-- R237, R323: `MB_BEGIN` clears the meta-block registers, the block-type state, the distance parameters and the tree counts, invalidates every table and both maps, and goes to `MB_HEADER`; the bit reader, the window, the distance ring and `CFG.WBITS` stay. `CMODE`, which R21 leaves unspecified here, holds 256 free values (notes/assumptions/33.md). The agenda (`todo`) is the model's form of the position inside a visit (notes/assumptions/1.md). -/
def Obligations.MetaBlockBegin : Prop :=
  ∀ s : State, ∃ t, exec .cdMbBegin s = .next t ∧ t.st = .mbHeader ∧ t.todo = [] ∧
    t.mb.last = false ∧ t.mb.uncomp = false ∧ t.mb.rem = 0 ∧
    (∀ c, t.blk.get c = { nbt := 1, cur := 0, prev2 := 1, blen := 0 }) ∧
    t.mb.npostfix = 0 ∧ t.mb.numdirect = 16 ∧ t.mb.ndist = 64 ∧ t.mb.ntreesL = 1 ∧ t.mb.ntreesD = 1 ∧
    (∀ r, lookupTable t.ht r = none) ∧ t.cm.mapL = [] ∧ t.cm.mapD = [] ∧
    t.br = s.br ∧ t.rb = s.rb ∧ t.dr = s.dr ∧ t.wbits = s.wbits ∧ t.cmd = s.cmd ∧ t.err = s.err ∧ t.snk = s.snk ∧
    t.mb.cmode.length = 256

/-- R238, R241, R243, R244, R245, R255: a visit of a header state puts the items of its pseudocode on the agenda, in order, and changes nothing else; at the end of `HDR_BLOCKS`, `HDR_DISTPARAMS`, `HDR_CTXMODES` and `HDR_TREES` the state becomes `HDR_DISTPARAMS`, `HDR_CTXMODES`, `HDR_CMAP_L` and `CMD_BEGIN`. That an aligned cursor has no `PAD` element and that alignment is tested on every visit is the model's reading (notes/assumptions/30.md). The agenda (`todo`) is the model's form of the position inside a visit (notes/assumptions/1.md). -/
def Obligations.HeaderStateVisits : Prop :=
  ∀ s : State,
    exec .cdMbHeader s = .next { s with todo := .elem .islast :: s.todo } ∧
    (s.br.cur % 8 = 0 → exec .cdUncompressedCopy s = .next { s with todo := .elem .rawbyte :: s.todo }) ∧
    (s.br.cur % 8 ≠ 0 → exec .cdUncompressedCopy s = .next { s with todo := .elem .pad :: .elem .rawbyte :: s.todo }) ∧
    exec .cdHdrBlocks s = .next { s with
      todo := .act (.beginCat .lit) :: .act (.beginCat .cmd) :: .act (.beginCat .dist) :: .act .toDistparams :: s.todo } ∧
    exec .cdHdrDistparams s = .next { s with
      todo := .elem .npostfix :: .elem .ndirectHi :: .act .toCtxmodes :: s.todo } ∧
    exec .cdHdrCtxmodes s = .next { s with
      visit := { s.visit with ctxI := 0 }
      todo := List.replicate s.blk.lit.nbt (.elem .cmode) ++ .act .toCmapL :: s.todo } ∧
    exec .cdHdrTrees s = .next { s with
      todo := (List.range s.mb.ntreesL).flatMap (fun i => [.op (.hdReadcode 256), .act (.store (.tgL i))]) ++
        ((List.range s.blk.cmd.nbt).flatMap (fun i => [.op (.hdReadcode 704), .act (.store (.tgI i))]) ++
        ((List.range s.mb.ntreesD).flatMap (fun i => [.op (.hdReadcode s.mb.ndist), .act (.store (.tgD i))]) ++
        .act .toCmdBegin :: s.todo)) } ∧
    runAct .toDistparams s = .next { s with st := .hdrDistparams, todo := [] } ∧
    runAct .toCtxmodes s = .next { s with st := .hdrCtxmodes, todo := [] } ∧
    runAct .toCmapL s = .next { s with st := .hdrCmapL, todo := [] } ∧
    runAct .toCmdBegin s = .next { s with st := .cmdBegin, todo := [] }

/-- R257, R259, R260, R264, R278, R279, R306: a visit of a command state, of `FLUSH`, and of the states in which DEC has no step. The agenda (`todo`) is the model's form of the position inside a visit (notes/assumptions/1.md). -/
def Obligations.CommandStateVisits : Prop :=
  ∀ s : State,
    exec .cdCmdBegin s = .next { s with todo := .act (.tick .cmd) :: .elem .cmdsym :: s.todo } ∧
    (s.cmd.ins ≠ 0 → exec .cdCmdLiteral s = .next { s with todo := .act (.tick .lit) :: .elem .literal :: s.todo }) ∧
    (s.cmd.ins = 0 → s.mb.rem = 0 ∨ s.cmd.cpy = 0 → exec .cdCmdLiteral s = .next { s with st := .cmdEnd, todo := [] }) ∧
    (s.cmd.ins = 0 → s.mb.rem ≠ 0 → s.cmd.cpy ≠ 0 →
      exec .cdCmdLiteral s = .next { s with st := .cmdDistance, todo := [] }) ∧
    (s.cmd.dcode = -1 → exec .cdCmdDistance s = .next { s with
      todo := .act (.tick .dist) :: .elem .distsym :: .act .classify :: s.todo }) ∧
    (s.cmd.dcode ≠ -1 → exec .cdCmdDistance s = .next { s with todo := .act .resolve :: .act .classify :: s.todo }) ∧
    exec .cdFlush s = .next { s with todo := .op .rbFlush :: .act .toFinished :: s.todo } ∧
    runAct .toFinished s = .next { s with st := .finished, todo := [] } ∧
    exec .cdIdle s = .next s ∧ exec .cdFinished s = .next s ∧ exec .cdError s = .next s

/-- R275: `CMD_END` goes to `CMD_BEGIN` while bytes of the meta-block remain, else to `MB_DONE`; the two previous bytes stay as the puts left them. The agenda (`todo`) is the model's form of the position inside a visit (notes/assumptions/1.md). -/
def Obligations.CommandEnd : Prop :=
  ∀ s : State,
    (0 < s.mb.rem → exec .cdCmdEnd s = .next { s with st := .cmdBegin, todo := [] }) ∧
    (s.mb.rem = 0 → exec .cdCmdEnd s = .next { s with st := .mbDone, todo := [] })

/-- R277: `MB_DONE` goes to `FLUSH` after the final meta-block, else to `MB_BEGIN`; nothing is flushed between meta-blocks. The agenda (`todo`) is the model's form of the position inside a visit (notes/assumptions/1.md). -/
def Obligations.MetaBlockDone : Prop :=
  ∀ s : State,
    (s.mb.last = true → exec .cdMbDone s = .next { s with st := .flush, todo := [] }) ∧
    (s.mb.last = false → exec .cdMbDone s = .next { s with st := .mbBegin, todo := [] })

/-- R306, R150, R205, R313: a fault writes `ERR.KIND`, `ERR.SUB` and `CD.ST`; the session has no step left, nothing is on offer, and every register and the window keep their values; no table and no map becomes valid or ceases to be; and in `ERROR`, `FINISHED` or `IDLE` with nothing left to do, a step that is not the host's changes nothing but the list of turns. The agenda (`todo`) is the model's form of the position inside a visit (notes/assumptions/1.md). What R306 leaves unspecified is free in the model, and that a table or a map entry that is valid stays valid is its reading (notes/assumptions/6.md); the list of turns is the model's (notes/assumptions/2.md). -/
def Obligations.FaultEntry : Prop :=
  (∀ (s : State) (k : ErrKind) (sub : Nat) (t : State), t = s.raise k sub →
    t.err = { kind := k, sub := sub } ∧ t.st = .error ∧ t.status = .error ∧ t.todo = [] ∧ t.snk.offer = none ∧
    t.snk.out = s.snk.out ∧ t.br = s.br ∧ t.rb = s.rb ∧ t.mb = s.mb ∧ t.cmd = s.cmd ∧ t.dr = s.dr ∧ t.blk = s.blk ∧
    t.q = s.q ∧ t.qsize = s.qsize ∧ t.wbits = s.wbits ∧ t.statPos = s.statPos ∧ t.sd.outlen = s.sd.outlen ∧
    t.sd.outidx = s.sd.outidx ∧ (∀ r, (lookupTable t.ht r).isSome = (lookupTable s.ht r).isSome) ∧
    t.cm.mapL.length = s.cm.mapL.length ∧ t.cm.mapD.length = s.cm.mapD.length ∧ t.hd.len.length = s.hd.len.length ∧
    t.hd.clcl.length = s.hd.clcl.length) ∧
  (∀ (s : State) (a : Agent) (ts : List Agent), s.RestOk → s.st.noSession = true → s.env.turns = a :: ts → a ≠ .host →
    step s = .next { s with env := { s.env with turns := ts } })

/-- R303, R25, R290: `STATUS` follows the sequencer state and the holds, and `STAT.POS` reads the query's size in a query and `RB.POS` otherwise; the codes the host reads. That DEC is at the element or operation in front of the agenda, so the step at which `STATUS` changes, is the model's reading (notes/assumptions/24.md), resting on the step of notes/assumptions/1.md. -/
def Obligations.StatusFunction : Prop :=
  ∀ s : State,
    (s.st = .idle → s.status = .idle) ∧ (s.st = .finished → s.status = .done) ∧ (s.st = .error → s.status = .error) ∧
    (s.st.noSession = false → s.snk.offer.isSome = true → s.status = .needsOutput) ∧
    (s.st.noSession = false → s.snk.offer = none → s.heldOnInput = true → s.status = .needsInput) ∧
    (s.st.noSession = false → s.snk.offer = none → s.heldOnInput = false → s.status = .run) ∧
    (s.q = true → s.statPos = s.qsize) ∧ (s.q = false → s.statPos = s.rb.pos) ∧
    [Status.idle, .run, .needsInput, .needsOutput, .done, .error].map Status.code = [0, 1, 2, 3, 4, 5] ∧
    [ErrKind.none, .malformedHuffman, .truncatedInput, .invalidBackwardReference, .invalidDictionaryReference,
      .sinkRejectedOutput, .sourceFailed, .sizeUnknown].map ErrKind.code = [0, 1, 2, 3, 4, 5, 6, 7]

/-- R320: the values after reset that the spec gives. -/
def Obligations.ResetValues : Prop :=
  State.reset.st = .idle ∧ State.reset.q = false ∧ State.reset.qsize = 0 ∧ State.reset.status = .idle ∧
    State.reset.err = { kind := .none, sub := 0 } ∧ State.reset.statPos = 0 ∧
    State.reset.br.input = [] ∧ State.reset.br.cur = 0 ∧ State.reset.br.eos = false ∧ State.reset.br.srcErr = false ∧
    State.reset.br.bytepos = 0 ∧ (∀ r, lookupTable State.reset.ht r = none) ∧
    State.reset.mb.ntreesL = 1 ∧ State.reset.mb.ntreesD = 1 ∧
    (∀ c, State.reset.blk.get c = { nbt := 1, cur := 0, prev2 := 1, blen := 0 }) ∧
    State.reset.dr = { d0 := 16, d1 := 15, d2 := 11, d3 := 4, idx := 0 } ∧
    State.reset.rb.pos = 0 ∧ State.reset.rb.p1 = 0 ∧ State.reset.rb.p2 = 0 ∧
    State.reset.mb.last = false ∧ State.reset.mb.uncomp = false ∧ State.reset.mb.rem = 0 ∧
    State.reset.mb.npostfix = 0 ∧ State.reset.mb.numdirect = 16 ∧ State.reset.mb.ndist = 64 ∧
    State.reset.cmd = { ins := 0, cpy := 0, cpyrem := 0, dcode := 0, dist := 0, maxd := 0 } ∧
    State.reset.sd = { out := [], outlen := 0, outidx := 0 }

/-- The invariant of the machine (R13, R14, R306, and the canonical form of the cells of `RB.MEM`) holds after reset. The list form of the cells is the model's (notes/assumptions/5.md), and so is the register form before four bytes are shifted in (notes/assumptions/13.md). -/
def Obligations.InvariantAtReset : Prop :=
  State.reset.Inv

/-- R13, R14, R306: from every state with the invariant, every step of every agent gives a state with it: the cursor inside the input, the register form in its refinement relation, the cells of `RB.MEM` in canonical form, `ERR.KIND` set exactly in `ERROR`, nothing left to do without a session. The list form of the cells is the model's (notes/assumptions/5.md), and so is the register form before four bytes are shifted in (notes/assumptions/13.md). -/
def Obligations.InvariantKept : Prop :=
  ∀ s s' : State, s.Inv → step s = .next s' → s'.Inv

/-- R76, R13, R300: a step either starts the bit reader afresh or only appends to the input, not after its end or a failure, and never moves the cursor back; on a turn of the source, in a session whose input has not ended or failed, `Bytes` appends them, `NotYet` does nothing, `End` sets `BR.EOS` and `Error` sets `BR.SRCERR`; not enabled, or with no answer, the source changes nothing. The lists of turns and of answers are the model's (notes/assumptions/2.md); a delivery of no bytes is taken as `End` (notes/assumptions/19.md). -/
def Obligations.InputOnlyGrows : Prop :=
  (∀ s s' : State, step s = .next s' → s'.br = State.reset.br ∨ s.br.Extends s'.br) ∧
  (∀ (s u : State) (ts : List Agent) (rest : List SrcAns) (a : SrcAns), s.env.turns = .src :: ts → s.env.src = a :: rest →
    s.st.noSession = false → s.br.eos = false → s.br.srcErr = false →
    u = { s with env := { s.env with turns := ts, src := rest } } →
    (∀ l, a = .bytes l → l ≠ [] → step s = .next { u with br := { s.br with input := s.br.input ++ l } }) ∧
    (a = .bytes [] → step s = .next { u with br := { s.br with eos := true } }) ∧
    (a = .notYet → step s = .next u) ∧
    (a = .eoi → step s = .next { u with br := { s.br with eos := true } }) ∧
    (a = .error → step s = .next { u with br := { s.br with srcErr := true } })) ∧
  (∀ (s : State) (ts : List Agent), s.env.turns = .src :: ts →
    s.st.noSession = true ∨ s.br.eos = true ∨ s.br.srcErr = true ∨ s.env.src = [] →
    step s = .next { s with env := { s.env with turns := ts } })

/-- R75, R302: a step leaves the chunks that the sink has accepted as they are, or appends exactly the chunk that was on offer; on a turn of the sink with a chunk on offer, `Accept` appends the chunk and ends the push, `Busy` changes nothing, `Short(k)` below the length raises `sink-rejected-output(0)` and `Fail` raises `sink-rejected-output(1)`, both without appending; with nothing on offer, or no answer, the sink changes nothing. The lists of turns and of answers are the model's (notes/assumptions/2.md), and so is the list of accepted chunks (notes/assumptions/18.md); a short count that is not below the length is taken as an acceptance (notes/assumptions/19.md). -/
def Obligations.SinkOnlyGrows : Prop :=
  (∀ s s' : State, step s = .next s' →
    s'.snk.out = s.snk.out ∨ ∃ chunk, s.snk.offer = some chunk ∧ s'.snk.out = s.snk.out ++ [chunk]) ∧
  (∀ (s u : State) (ts : List Agent) (rest : List SnkAns) (a : SnkAns) (chunk : List Byte), s.env.turns = .snk :: ts →
    s.env.snk = a :: rest → s.snk.offer = some chunk → u = { s with env := { s.env with turns := ts, snk := rest } } →
    (a = .accept → step s = .next { u with snk := { offer := none, out := s.snk.out ++ [chunk] } }) ∧
    (a = .busy → step s = .next u) ∧
    (∀ k, a = .short k → k < chunk.length → step s = .next (u.raise .sinkRejectedOutput 0)) ∧
    (∀ k, a = .short k → chunk.length ≤ k → step s = .next { u with snk := { offer := none, out := s.snk.out ++ [chunk] } }) ∧
    (a = .fail → step s = .next (u.raise .sinkRejectedOutput 1))) ∧
  (∀ (s : State) (ts : List Agent), s.env.turns = .snk :: ts → s.snk.offer = none ∨ s.env.snk = [] →
    step s = .next { s with env := { s.env with turns := ts } })

/-- R6, R24, R26, R321, R345: no step changes a parameter; a step changes `CFG.WBITS` only where the host has an action pending and no session runs, or the host resets the block; on a turn of the host, a write of `CFG.WBITS` takes effect without a session and is ignored in one, a write of 1, 2 or 3 to `CTRL` runs its operation and any other value is ignored, and reset gives every item its reset value. Parameters as a field of State are the model's form (notes/assumptions/12.md), and so are the lists of turns and of host actions (notes/assumptions/2.md); reset as an action of the host, with `CFG.WBITS` among the items it sets, and to 0, is the model's reading (notes/assumptions/23.md, notes/assumptions/3.md). -/
def Obligations.ConfigurationKept : Prop :=
  (∀ s s' : State, step s = .next s' → s'.par = s.par ∧
    (s'.wbits = s.wbits ∨ (∃ v rest, s.env.host = .setWbits v :: rest ∧ s.st.noSession = true ∧ s'.wbits = v) ∨
      (∃ rest, s.env.host = .reset :: rest))) ∧
  (∀ (s u : State) (ts : List Agent) (rest : List HostAct) (a : HostAct), s.env.turns = .host :: ts →
    s.env.host = a :: rest → u = { s with env := { s.env with turns := ts, host := rest } } →
    (∀ v, a = .setWbits v → s.st.noSession = true → step s = .next { u with wbits := v }) ∧
    (∀ v, a = .setWbits v → s.st.noSession = false → step s = .next u) ∧
    (a = .ctrl 1 → step s = exec .ctrlStart u) ∧ (a = .ctrl 2 → step s = exec .ctrlAbort u) ∧
    (a = .ctrl 3 → step s = exec .ctrlSizeq u) ∧
    (∀ v, a = .ctrl v → v ≠ 1 → v ≠ 2 → v ≠ 3 → step s = .next u) ∧
    (a = .reset → step s = .next { u.sessionReset with wbits := 0 })) ∧
  (∀ (s : State) (ts : List Agent), s.env.turns = .host :: ts → s.env.host = [] →
    step s = .next { s with env := { s.env with turns := ts } })
end

