-- ==== Sys2Proof/Laws/Memory.lean ====
section
/-! SUPPORT. The cells of `RB.MEM`: a read after a write, and the canonical form. -/

namespace Sys2Proof.Machine

/-- A cell listed in front is read back, above a list whose cells lie above it. -/
theorem memRead_memCons_same {m : Mem} {a : Nat} (v : Byte) (h : memRead m a = memUnlisted) : memRead (memCons a v m) a = v := by
  simp only [memCons]
  split
  · rename_i hv
    rw [h, hv]
  · simp [memRead]

theorem memRead_memCons_ne {m : Mem} {a b : Nat} (v : Byte) (h : b ≠ a) (hb : b < a → memRead m b = memUnlisted) :
    memRead (memCons a v m) b = memRead m b := by
  simp only [memCons]
  split
  · rfl
  · simp only [memRead]
    rw [if_neg (Ne.symm h)]
    split
    · rename_i hlt
      exact (hb hlt).symm
    · rfl

/-- Below the cells that are listed, a cell is unlisted. -/
theorem memRead_above {m : Mem} {b a : Nat} (h : Mem.above b m = true) (hab : a ≤ b) : memRead m a = memUnlisted := by
  cases m with
  | nil => rfl
  | cons p rest =>
    obtain ⟨c, w⟩ := p
    have hc : b < c := by simpa [Mem.above] using h
    simp only [memRead]
    rw [if_neg (by omega), if_pos (by omega)]

/-- What the canonical form says of a list with a first cell. -/
theorem Mem.wf_cons {a : Nat} {v : Byte} {m : Mem} :
    Mem.wf ((a, v) :: m) = true ↔ v ≠ memUnlisted ∧ Mem.above a m = true ∧ Mem.wf m = true := by
  simp [Mem.wf, and_assoc]

/-- A cell listed in front of higher ones keeps the canonical form. -/
theorem Mem.wf_memCons {m : Mem} {a : Nat} (v : Byte) (h : Mem.wf m = true) (ha : Mem.above a m = true) :
    Mem.wf (memCons a v m) = true := by
  simp only [memCons]
  split
  · exact h
  · rename_i hv
    exact Mem.wf_cons.2 ⟨hv, ha, h⟩

/-- A bound below a list's cells is below those of any list it starts with. -/
theorem Mem.above_of_lt {m : Mem} {c a : Nat} (h : Mem.above a m = true) (hca : c ≤ a) : Mem.above c m = true := by
  cases m with
  | nil => rfl
  | cons p rest =>
    have : a < p.1 := by simpa [Mem.above] using h
    simp only [Mem.above, decide_eq_true_eq]
    omega

theorem Mem.above_memCons {m : Mem} {c a : Nat} (v : Byte) (h : Mem.above c m = true) (hc : c < a) :
    Mem.above c (memCons a v m) = true := by
  simp only [memCons]
  split
  · exact h
  · simpa [Mem.above] using hc

/-- R70: in canonical form, a read after a write to the same cell gives the value written. -/
theorem memRead_memWrite_same {m : Mem} (a : Nat) (v : Byte) (h : Mem.wf m = true) : memRead (memWrite m a v) a = v := by
  induction m with
  | nil => exact memRead_memCons_same v rfl
  | cons p rest ih =>
    obtain ⟨b, w⟩ := p
    obtain ⟨hw, hab, hr⟩ := Mem.wf_cons.1 h
    simp only [memWrite]
    split
    · rename_i h1
      refine memRead_memCons_same v ?_
      simp only [memRead]
      rw [if_neg (by omega), if_pos h1]
    · split
      · rename_i h1 h2
        exact memRead_memCons_same v (memRead_above hab (by omega))
      · rename_i h1 h2
        simp [memRead, h1, h2, ih hr]

/-- R70: in canonical form, a write leaves every other cell alone. -/
theorem memRead_memWrite_ne {m : Mem} {a b : Nat} (v : Byte) (hm : Mem.wf m = true) (h : b ≠ a) :
    memRead (memWrite m a v) b = memRead m b := by
  induction m with
  | nil => exact memRead_memCons_ne v h fun _ => rfl
  | cons p rest ih =>
    obtain ⟨c, w⟩ := p
    obtain ⟨hw, hab, hr⟩ := Mem.wf_cons.1 hm
    simp only [memWrite]
    split
    · rename_i h1
      refine memRead_memCons_ne v h fun hba => ?_
      simp only [memRead]
      rw [if_neg (by omega), if_pos (by omega)]
    · split
      · rename_i h1 h2
        subst h2
        rw [memRead_memCons_ne v h fun hba => memRead_above hab (by omega)]
        simp only [memRead]
        rw [if_neg (Ne.symm h)]
        split
        · rename_i hlt
          exact memRead_above hab (by omega)
        · rfl
      · simp only [memRead, ih hr]

/-- The addresses of a write stay above a bound that they were above. -/
theorem Mem.above_memWrite {m : Mem} {c a : Nat} (v : Byte) (h : Mem.above c m = true) (hm : Mem.wf m = true) (hc : c < a) :
    Mem.above c (memWrite m a v) = true := by
  cases m with
  | nil => exact Mem.above_memCons v h hc
  | cons p rest =>
    obtain ⟨b, w⟩ := p
    have hcb : c < b := by simpa [Mem.above] using h
    simp only [memWrite]
    split
    · exact Mem.above_memCons v h hc
    · split
      · exact Mem.above_memCons v (Mem.above_of_lt (Mem.wf_cons.1 hm).2.1 (by omega)) hc
      · simpa [Mem.above] using hcb

/-- R70: a write keeps the canonical form. -/
theorem Mem.wf_memWrite {m : Mem} (a : Nat) (v : Byte) (h : Mem.wf m = true) : Mem.wf (memWrite m a v) = true := by
  induction m with
  | nil => exact Mem.wf_memCons v rfl rfl
  | cons p rest ih =>
    obtain ⟨b, w⟩ := p
    obtain ⟨hw, hab, hr⟩ := Mem.wf_cons.1 h
    simp only [memWrite]
    split
    · rename_i h1
      exact Mem.wf_memCons v h (by simpa [Mem.above] using h1)
    · split
      · rename_i h2
        subst h2
        exact Mem.wf_memCons v hr hab
      · rename_i h1 h2
        exact Mem.wf_cons.2 ⟨hw, Mem.above_memWrite v hab hr (by omega), ih hr⟩

/-- `RB.PUT` keeps the canonical form. -/
theorem Ring.wf_put {r : Ring} (b : Byte) (h : Mem.wf r.mem = true) : Mem.wf (r.put b).mem = true :=
  Mem.wf_memWrite _ _ h

/-- The memory after reset has the canonical form. -/
theorem reset_mem_wf : Mem.wf State.reset.rb.mem = true := rfl

/-- R199: the cell that a put writes. -/
theorem Ring.put_read {r : Ring} (b : Byte) (h : Mem.wf r.mem = true) : memRead (r.put b).mem (r.pos % r.size) = b :=
  memRead_memWrite_same _ _ h

/-- R199: every other cell reads as before. -/
theorem Ring.put_read_ne {r : Ring} (b : Byte) {a : Nat} (hm : Mem.wf r.mem = true) (h : a ≠ r.pos % r.size) :
    memRead (r.put b).mem a = memRead r.mem a := memRead_memWrite_ne _ hm h

/-- A range read has as many bytes as cells. -/
@[simp] theorem memRange_length (m : Mem) (lo n : Nat) : (memRange m lo n).length = n := by
  induction n generalizing lo with
  | zero => rfl
  | succ n ih => simp [memRange, ih]

/-- Byte `k` of a range read is the cell `lo + k`. -/
theorem memRange_get (m : Mem) (lo n k : Nat) (h : k < n) : (memRange m lo n)[k]? = some (memRead m (lo + k)) := by
  induction n generalizing lo k with
  | zero => omega
  | succ n ih =>
    cases k with
    | zero => rfl
    | succ k =>
      simp only [memRange, List.getElem?_cons_succ]
      rw [ih (lo + 1) k (by omega), show lo + 1 + k = lo + (k + 1) by omega]

end Sys2Proof.Machine
end

