-- ==== Sys2Proof/Laws/Reader.lean ====
section
/-! SUPPORT. The bit reader: what `BR.FILL`, `need`, a read and the reads of an element can do. -/

namespace Sys2Proof.Machine

/-! ## `BR.FILL` leaves the architectural state (R132) and keeps the register form (R14) -/

/-- Everything of a bit reader that is not its register form. -/
def BitReader.SameArch (b c : BitReader) : Prop :=
  c.input = b.input ∧ c.cur = b.cur ∧ c.eos = b.eos ∧ c.srcErr = b.srcErr

theorem BitReader.shiftLoop_same (n : Nat) (b : BitReader) : b.SameArch (BitReader.shiftLoop n b) := by
  induction n generalizing b with
  | zero => exact ⟨rfl, rfl, rfl, rfl⟩
  | succ n ih =>
    simp only [BitReader.shiftLoop]
    split
    · exact ih b.shiftIn
    · exact ⟨rfl, rfl, rfl, rfl⟩

theorem BitReader.firstFill_same (b : BitReader) : b.SameArch b.firstFill := by
  simp only [BitReader.firstFill]
  split <;> exact ⟨rfl, rfl, rfl, rfl⟩

theorem BitReader.fill_same (b : BitReader) : b.SameArch b.fill := by
  obtain ⟨h1, h2, h3, h4⟩ := b.firstFill_same
  obtain ⟨g1, g2, g3, g4⟩ := BitReader.shiftLoop_same (b.firstFill.bitpos / 8) b.firstFill
  exact ⟨g1.trans h1, g2.trans h2, g3.trans h3, g4.trans h4⟩

@[simp] theorem BitReader.fill_input (b : BitReader) : b.fill.input = b.input := b.fill_same.1
@[simp] theorem BitReader.fill_cur (b : BitReader) : b.fill.cur = b.cur := b.fill_same.2.1
@[simp] theorem BitReader.fill_eos (b : BitReader) : b.fill.eos = b.eos := b.fill_same.2.2.1
@[simp] theorem BitReader.fill_srcErr (b : BitReader) : b.fill.srcErr = b.srcErr := b.fill_same.2.2.2
@[simp] theorem BitReader.fill_avail (b : BitReader) : b.fill.avail = b.avail := by simp [BitReader.avail]
@[simp] theorem BitReader.fill_peek (b : BitReader) (n : Nat) : b.fill.peek n = b.peek n := by simp [BitReader.peek]

@[simp] theorem BitReader.fill_windowShort (p : Config.Params) (b : BitReader) :
    b.fill.windowShort p = b.windowShort p := by simp [BitReader.windowShort]

@[simp] theorem BitReader.fill_need (p : Config.Params) (b : BitReader) (n : Nat) : b.fill.need p n = b.need p n := by
  simp [BitReader.need]

/-! ## One read -/

@[simp] theorem BitReader.advance_input (b : BitReader) (n : Nat) : (b.advance n).input = b.input := rfl
@[simp] theorem BitReader.advance_cur (b : BitReader) (n : Nat) : (b.advance n).cur = b.cur + n := rfl
@[simp] theorem BitReader.advance_eos (b : BitReader) (n : Nat) : (b.advance n).eos = b.eos := rfl
@[simp] theorem BitReader.advance_srcErr (b : BitReader) (n : Nat) : (b.advance n).srcErr = b.srcErr := rfl
@[simp] theorem BitReader.advance_avail (b : BitReader) (n : Nat) : (b.advance n).avail = b.avail := by
  simp [BitReader.avail]

/-- R131, R135: everything a read can do. -/
theorem BitReader.take_cases (p : Config.Params) (b : BitReader) (f : Field) :
    (b.need p f.need = .hold ∧ b.take p f = .hold) ∨
    (b.need p f.need = .failed ∧ f.drop ≠ 0 ∧ b.take p f = .fail .sourceFailed b) ∨
    (b.need p f.need = .ready ∧ f.drop ≠ 0 ∧ b.avail < b.cur + f.drop ∧ b.take p f = .fail .truncatedInput b) ∨
    (b.need p f.need ≠ .hold ∧ (f.drop = 0 ∨ (b.need p f.need = .ready ∧ b.cur + f.drop ≤ b.avail)) ∧
      b.take p f = .ok (b.advance f.drop)) := by
  simp only [BitReader.take]
  cases h : b.need p f.need
  · by_cases h2 : f.drop ≠ 0 ∧ b.avail < b.cur + f.drop
    · simp [h2]
    · simp only [h2, ite_false]
      refine .inr (.inr (.inr ⟨by simp, ?_, trivial⟩))
      by_cases h3 : f.drop = 0
      · exact .inl h3
      · exact .inr ⟨trivial, by omega⟩
  · simp
  · by_cases h2 : f.drop = 0
    · simp [h2]
    · simp [h2]

/-- A read that succeeds consumes its bits and keeps the cursor inside the input. -/
theorem BitReader.take_ok {p : Config.Params} {b c : BitReader} {f : Field} (h : b.take p f = .ok c) :
    c = b.advance f.drop ∧ (f.drop = 0 ∨ b.cur + f.drop ≤ b.avail) := by
  rcases b.take_cases p f with h1 | h1 | h1 | h1
  · rw [h1.2] at h; cases h
  · rw [h1.2.2] at h; cases h
  · rw [h1.2.2.2] at h; cases h
  · rw [h1.2.2] at h; cases h; exact ⟨rfl, h1.2.1.imp_right And.right⟩

/-- A read that faults leaves the bit reader. -/
theorem BitReader.take_fail {p : Config.Params} {b c : BitReader} {f : Field} {k : ErrKind} (h : b.take p f = .fail k c) :
    c = b ∧ (k = .sourceFailed ∨ k = .truncatedInput) := by
  rcases b.take_cases p f with h1 | h1 | h1 | h1
  · rw [h1.2] at h; cases h
  · rw [h1.2.2] at h; cases h; exact ⟨rfl, .inl rfl⟩
  · rw [h1.2.2.2] at h; cases h; exact ⟨rfl, .inr rfl⟩
  · rw [h1.2.2] at h; cases h

/-! ## The reads of an element -/

/-- What the reads of an element keep: the input and its end, and a cursor that does not go back and stays inside. -/
theorem BitReader.takeAll_ok {p : Config.Params} {fs : List Field} {b c : BitReader} (h : BitReader.takeAll p b fs = .ok c) :
    c.input = b.input ∧ c.eos = b.eos ∧ c.srcErr = b.srcErr ∧ c.cur = b.cur + fieldBits fs ∧ (b.CursorOk → c.CursorOk) := by
  induction fs generalizing b with
  | nil =>
    simp only [BitReader.takeAll, Taken.ok.injEq] at h
    subst h
    simp [fieldBits]
  | cons f fs ih =>
    simp only [BitReader.takeAll] at h
    cases h1 : b.fill.take p f with
    | ok d =>
      rw [h1] at h
      obtain ⟨h2, h3⟩ := BitReader.take_ok h1
      obtain ⟨i1, i2, i3, i4, i5⟩ := ih h
      subst h2
      refine ⟨by simpa using i1, by simpa using i2, by simpa using i3, ?_, fun hb => i5 ?_⟩
      · rw [i4]; simp [fieldBits]; omega
      · simp only [BitReader.CursorOk] at hb
        simp only [BitReader.CursorOk, BitReader.advance_cur, BitReader.advance_avail, BitReader.fill_cur, BitReader.fill_avail] at h3 ⊢
        omega
    | hold => rw [h1] at h; cases h
    | fail k d => rw [h1] at h; cases h

/-- R307: what the reads of an element keep when one of them faults. -/
theorem BitReader.takeAll_fail {p : Config.Params} {fs : List Field} {b c : BitReader} {k : ErrKind}
    (h : BitReader.takeAll p b fs = .fail k c) :
    c.input = b.input ∧ c.eos = b.eos ∧ c.srcErr = b.srcErr ∧ b.cur ≤ c.cur ∧ (b.CursorOk → c.CursorOk) ∧
      (k = .sourceFailed ∨ k = .truncatedInput) := by
  induction fs generalizing b with
  | nil => simp [BitReader.takeAll] at h
  | cons f fs ih =>
    simp only [BitReader.takeAll] at h
    cases h1 : b.fill.take p f with
    | ok d =>
      rw [h1] at h
      obtain ⟨h2, h3⟩ := BitReader.take_ok h1
      obtain ⟨i1, i2, i3, i4, i5, i6⟩ := ih h
      subst h2
      refine ⟨by simpa using i1, by simpa using i2, by simpa using i3, ?_, fun hb => i5 ?_, i6⟩
      · simp at i4; omega
      · simp only [BitReader.CursorOk] at hb
        simp only [BitReader.CursorOk, BitReader.advance_cur, BitReader.advance_avail, BitReader.fill_cur, BitReader.fill_avail] at h3 ⊢
        omega
    | hold => rw [h1] at h; cases h
    | fail e d =>
      rw [h1] at h
      cases h
      obtain ⟨h2, h3⟩ := BitReader.take_fail h1
      subst h2
      simp [BitReader.CursorOk, h3]

/-- The reads of an element in two parts. -/
theorem BitReader.takeAll_append (p : Config.Params) (pre post : List Field) (b : BitReader) :
    BitReader.takeAll p b (pre ++ post) =
      match BitReader.takeAll p b pre with
      | .ok c => BitReader.takeAll p c post
      | .hold => .hold
      | .fail k c => .fail k c := by
  induction pre generalizing b with
  | nil => rfl
  | cons f pre ih =>
    simp only [List.cons_append, BitReader.takeAll]
    cases b.fill.take p f with
    | ok d => exact ih d
    | hold => rfl
    | fail k d => rfl

/-! ## The register form (R14) -/

/-- One turn of the loop of `BR.FILL` shifts the register on by one byte. -/
theorem regWord_shift (l : List Byte) (p : Nat) :
    (regWord l p >>> 8) ||| ((streamByte l p).setWidth 32 <<< 24) = regWord l (p + 1) := by
  have h3 : regByte l (p + 1) 3 = streamByte l p := by simp [regByte]
  have hk (k : Nat) : regByte l (p + 1) k = regByte l p (k + 1) := by
    simp only [regByte, show p + 1 + k = p + (k + 1) by omega]
  simp only [regWord, h3, hk 0, hk 1, hk 2]
  generalize regByte l p 0 = a
  generalize regByte l p 1 = b
  generalize regByte l p 2 = c
  generalize regByte l p 3 = d
  generalize streamByte l p = e
  apply BitVec.eq_of_getLsbD_eq
  intro k hk
  simp only [BitVec.getLsbD_or, BitVec.getLsbD_ushiftRight, BitVec.getLsbD_shiftLeft, BitVec.getLsbD_setWidth,
    BitVec.getLsbD_append]
  have : k < 32 := hk
  interval_cases k <;> simp

/-- The register before the first byte is empty. -/
@[simp] theorem regWord_zero (l : List Byte) : regWord l 0 = 0 := by
  have hb (k : Nat) (hk : k < 4) : regByte l 0 k = 0 := if_pos (by omega)
  rw [regWord, hb 0 (by omega), hb 1 (by omega), hb 2 (by omega), hb 3 (by omega)]
  rfl

theorem streamByte_append {l r : List Byte} {i : Nat} (h : i < l.length) : streamByte (l ++ r) i = streamByte l i := by
  simp [streamByte, List.getD_eq_getElem?_getD, List.getElem?_append_left h]

/-- The register does not see bytes beyond the next one. -/
theorem regWord_append {l r : List Byte} {p : Nat} (h : p ≤ l.length) : regWord (l ++ r) p = regWord l p := by
  have hb (k : Nat) (hk : k < 4) : regByte (l ++ r) p k = regByte l p k := by
    simp only [regByte]
    split
    · rfl
    · exact streamByte_append (by omega)
  simp only [regWord, hb 0 (by omega), hb 1 (by omega), hb 2 (by omega), hb 3 (by omega)]

end Sys2Proof.Machine
end

