-- ==== Sys2Proof/Laws/State.lean ====
section
/-! SUPPORT. One lemma per field per update of the state, so that no later proof unfolds a record update. -/

namespace Sys2Proof.Machine

@[simp] theorem State.push_par (l : List Todo) (s : State) : (s.push l).par = s.par := rfl
@[simp] theorem State.push_st (l : List Todo) (s : State) : (s.push l).st = s.st := rfl
@[simp] theorem State.push_q (l : List Todo) (s : State) : (s.push l).q = s.q := rfl
@[simp] theorem State.push_qsize (l : List Todo) (s : State) : (s.push l).qsize = s.qsize := rfl
@[simp] theorem State.push_todo (l : List Todo) (s : State) : (s.push l).todo = l ++ s.todo := rfl
@[simp] theorem State.push_visit (l : List Todo) (s : State) : (s.push l).visit = s.visit := rfl
@[simp] theorem State.push_br (l : List Todo) (s : State) : (s.push l).br = s.br := rfl
@[simp] theorem State.push_ht (l : List Todo) (s : State) : (s.push l).ht = s.ht := rfl
@[simp] theorem State.push_hd (l : List Todo) (s : State) : (s.push l).hd = s.hd := rfl
@[simp] theorem State.push_cm (l : List Todo) (s : State) : (s.push l).cm = s.cm := rfl
@[simp] theorem State.push_blk (l : List Todo) (s : State) : (s.push l).blk = s.blk := rfl
@[simp] theorem State.push_dr (l : List Todo) (s : State) : (s.push l).dr = s.dr := rfl
@[simp] theorem State.push_rb (l : List Todo) (s : State) : (s.push l).rb = s.rb := rfl
@[simp] theorem State.push_mb (l : List Todo) (s : State) : (s.push l).mb = s.mb := rfl
@[simp] theorem State.push_cmd (l : List Todo) (s : State) : (s.push l).cmd = s.cmd := rfl
@[simp] theorem State.push_sd (l : List Todo) (s : State) : (s.push l).sd = s.sd := rfl
@[simp] theorem State.push_err (l : List Todo) (s : State) : (s.push l).err = s.err := rfl
@[simp] theorem State.push_wbits (l : List Todo) (s : State) : (s.push l).wbits = s.wbits := rfl
@[simp] theorem State.push_snk (l : List Todo) (s : State) : (s.push l).snk = s.snk := rfl
@[simp] theorem State.push_env (l : List Todo) (s : State) : (s.push l).env = s.env := rfl
@[simp] theorem State.push_res (l : List Todo) (s : State) : (s.push l).res = s.res := rfl
@[simp] theorem State.push_free (l : List Todo) (s : State) : (s.push l).free = s.free := rfl

@[simp] theorem State.goto_par (t : St) (s : State) : (s.goto t).par = s.par := rfl
@[simp] theorem State.goto_st (t : St) (s : State) : (s.goto t).st = t := rfl
@[simp] theorem State.goto_q (t : St) (s : State) : (s.goto t).q = s.q := rfl
@[simp] theorem State.goto_qsize (t : St) (s : State) : (s.goto t).qsize = s.qsize := rfl
@[simp] theorem State.goto_todo (t : St) (s : State) : (s.goto t).todo = [] := rfl
@[simp] theorem State.goto_visit (t : St) (s : State) : (s.goto t).visit = s.visit := rfl
@[simp] theorem State.goto_br (t : St) (s : State) : (s.goto t).br = s.br := rfl
@[simp] theorem State.goto_ht (t : St) (s : State) : (s.goto t).ht = s.ht := rfl
@[simp] theorem State.goto_hd (t : St) (s : State) : (s.goto t).hd = s.hd := rfl
@[simp] theorem State.goto_cm (t : St) (s : State) : (s.goto t).cm = s.cm := rfl
@[simp] theorem State.goto_blk (t : St) (s : State) : (s.goto t).blk = s.blk := rfl
@[simp] theorem State.goto_dr (t : St) (s : State) : (s.goto t).dr = s.dr := rfl
@[simp] theorem State.goto_rb (t : St) (s : State) : (s.goto t).rb = s.rb := rfl
@[simp] theorem State.goto_mb (t : St) (s : State) : (s.goto t).mb = s.mb := rfl
@[simp] theorem State.goto_cmd (t : St) (s : State) : (s.goto t).cmd = s.cmd := rfl
@[simp] theorem State.goto_sd (t : St) (s : State) : (s.goto t).sd = s.sd := rfl
@[simp] theorem State.goto_err (t : St) (s : State) : (s.goto t).err = s.err := rfl
@[simp] theorem State.goto_wbits (t : St) (s : State) : (s.goto t).wbits = s.wbits := rfl
@[simp] theorem State.goto_snk (t : St) (s : State) : (s.goto t).snk = s.snk := rfl
@[simp] theorem State.goto_env (t : St) (s : State) : (s.goto t).env = s.env := rfl
@[simp] theorem State.goto_res (t : St) (s : State) : (s.goto t).res = s.res := rfl
@[simp] theorem State.goto_free (t : St) (s : State) : (s.goto t).free = s.free := rfl

@[simp] theorem State.raise_par (k : ErrKind) (n : Nat) (s : State) : (s.raise k n).par = s.par := rfl
@[simp] theorem State.raise_st (k : ErrKind) (n : Nat) (s : State) : (s.raise k n).st = .error := rfl
@[simp] theorem State.raise_q (k : ErrKind) (n : Nat) (s : State) : (s.raise k n).q = s.q := rfl
@[simp] theorem State.raise_qsize (k : ErrKind) (n : Nat) (s : State) : (s.raise k n).qsize = s.qsize := rfl
@[simp] theorem State.raise_todo (k : ErrKind) (n : Nat) (s : State) : (s.raise k n).todo = [] := rfl
@[simp] theorem State.raise_visit (k : ErrKind) (n : Nat) (s : State) : (s.raise k n).visit = s.visit := rfl
@[simp] theorem State.raise_br (k : ErrKind) (n : Nat) (s : State) : (s.raise k n).br = s.br := rfl
@[simp] theorem State.raise_ht (k : ErrKind) (n : Nat) (s : State) : (s.raise k n).ht = tablesAfterFault s.free s.ht := rfl
@[simp] theorem State.raise_hd (k : ErrKind) (n : Nat) (s : State) : (s.raise k n).hd = scratchAfterFault s.free s.hd := rfl
@[simp] theorem State.raise_cm (k : ErrKind) (n : Nat) (s : State) : (s.raise k n).cm = mapsAfterFault s.free s.cm := rfl
@[simp] theorem State.raise_blk (k : ErrKind) (n : Nat) (s : State) : (s.raise k n).blk = s.blk := rfl
@[simp] theorem State.raise_dr (k : ErrKind) (n : Nat) (s : State) : (s.raise k n).dr = s.dr := rfl
@[simp] theorem State.raise_rb (k : ErrKind) (n : Nat) (s : State) : (s.raise k n).rb = s.rb := rfl
@[simp] theorem State.raise_mb (k : ErrKind) (n : Nat) (s : State) : (s.raise k n).mb = s.mb := rfl
@[simp] theorem State.raise_cmd (k : ErrKind) (n : Nat) (s : State) : (s.raise k n).cmd = s.cmd := rfl
@[simp] theorem State.raise_sd (k : ErrKind) (n : Nat) (s : State) : (s.raise k n).sd = { s.sd with out := Config.freeBytes s.free } := rfl
@[simp] theorem State.raise_err (k : ErrKind) (n : Nat) (s : State) : (s.raise k n).err = ⟨k, n⟩ := rfl
@[simp] theorem State.raise_wbits (k : ErrKind) (n : Nat) (s : State) : (s.raise k n).wbits = s.wbits := rfl
@[simp] theorem State.raise_snk (k : ErrKind) (n : Nat) (s : State) : (s.raise k n).snk = { s.snk with offer := none } := rfl
@[simp] theorem State.raise_env (k : ErrKind) (n : Nat) (s : State) : (s.raise k n).env = s.env := rfl
@[simp] theorem State.raise_res (k : ErrKind) (n : Nat) (s : State) : (s.raise k n).res = s.res := rfl
@[simp] theorem State.raise_free (k : ErrKind) (n : Nat) (s : State) : (s.raise k n).free = s.free + 1 := rfl

@[simp] theorem State.setBlk_par (c : Cat) (b : Blk) (s : State) : (s.setBlk c b).par = s.par := rfl
@[simp] theorem State.setBlk_st (c : Cat) (b : Blk) (s : State) : (s.setBlk c b).st = s.st := rfl
@[simp] theorem State.setBlk_q (c : Cat) (b : Blk) (s : State) : (s.setBlk c b).q = s.q := rfl
@[simp] theorem State.setBlk_qsize (c : Cat) (b : Blk) (s : State) : (s.setBlk c b).qsize = s.qsize := rfl
@[simp] theorem State.setBlk_todo (c : Cat) (b : Blk) (s : State) : (s.setBlk c b).todo = s.todo := rfl
@[simp] theorem State.setBlk_visit (c : Cat) (b : Blk) (s : State) : (s.setBlk c b).visit = s.visit := rfl
@[simp] theorem State.setBlk_br (c : Cat) (b : Blk) (s : State) : (s.setBlk c b).br = s.br := rfl
@[simp] theorem State.setBlk_ht (c : Cat) (b : Blk) (s : State) : (s.setBlk c b).ht = s.ht := rfl
@[simp] theorem State.setBlk_hd (c : Cat) (b : Blk) (s : State) : (s.setBlk c b).hd = s.hd := rfl
@[simp] theorem State.setBlk_cm (c : Cat) (b : Blk) (s : State) : (s.setBlk c b).cm = s.cm := rfl
@[simp] theorem State.setBlk_blk (c : Cat) (b : Blk) (s : State) : (s.setBlk c b).blk = s.blk.set c b := rfl
@[simp] theorem State.setBlk_dr (c : Cat) (b : Blk) (s : State) : (s.setBlk c b).dr = s.dr := rfl
@[simp] theorem State.setBlk_rb (c : Cat) (b : Blk) (s : State) : (s.setBlk c b).rb = s.rb := rfl
@[simp] theorem State.setBlk_mb (c : Cat) (b : Blk) (s : State) : (s.setBlk c b).mb = s.mb := rfl
@[simp] theorem State.setBlk_cmd (c : Cat) (b : Blk) (s : State) : (s.setBlk c b).cmd = s.cmd := rfl
@[simp] theorem State.setBlk_sd (c : Cat) (b : Blk) (s : State) : (s.setBlk c b).sd = s.sd := rfl
@[simp] theorem State.setBlk_err (c : Cat) (b : Blk) (s : State) : (s.setBlk c b).err = s.err := rfl
@[simp] theorem State.setBlk_wbits (c : Cat) (b : Blk) (s : State) : (s.setBlk c b).wbits = s.wbits := rfl
@[simp] theorem State.setBlk_snk (c : Cat) (b : Blk) (s : State) : (s.setBlk c b).snk = s.snk := rfl
@[simp] theorem State.setBlk_env (c : Cat) (b : Blk) (s : State) : (s.setBlk c b).env = s.env := rfl
@[simp] theorem State.setBlk_res (c : Cat) (b : Blk) (s : State) : (s.setBlk c b).res = s.res := rfl
@[simp] theorem State.setBlk_free (c : Cat) (b : Blk) (s : State) : (s.setBlk c b).free = s.free := rfl

@[simp] theorem State.rbPut_par (b : Byte) (l : List Todo) (s : State) : (s.rbPut b l).par = s.par := rfl
@[simp] theorem State.rbPut_st (b : Byte) (l : List Todo) (s : State) : (s.rbPut b l).st = s.st := rfl
@[simp] theorem State.rbPut_q (b : Byte) (l : List Todo) (s : State) : (s.rbPut b l).q = s.q := rfl
@[simp] theorem State.rbPut_qsize (b : Byte) (l : List Todo) (s : State) : (s.rbPut b l).qsize = s.qsize := rfl
@[simp] theorem State.rbPut_todo (b : Byte) (l : List Todo) (s : State) : (s.rbPut b l).todo = ((s.rb.put b).wrapFlush ++ l) ++ s.todo := rfl
@[simp] theorem State.rbPut_visit (b : Byte) (l : List Todo) (s : State) : (s.rbPut b l).visit = s.visit := rfl
@[simp] theorem State.rbPut_br (b : Byte) (l : List Todo) (s : State) : (s.rbPut b l).br = s.br := rfl
@[simp] theorem State.rbPut_ht (b : Byte) (l : List Todo) (s : State) : (s.rbPut b l).ht = s.ht := rfl
@[simp] theorem State.rbPut_hd (b : Byte) (l : List Todo) (s : State) : (s.rbPut b l).hd = s.hd := rfl
@[simp] theorem State.rbPut_cm (b : Byte) (l : List Todo) (s : State) : (s.rbPut b l).cm = s.cm := rfl
@[simp] theorem State.rbPut_blk (b : Byte) (l : List Todo) (s : State) : (s.rbPut b l).blk = s.blk := rfl
@[simp] theorem State.rbPut_dr (b : Byte) (l : List Todo) (s : State) : (s.rbPut b l).dr = s.dr := rfl
@[simp] theorem State.rbPut_rb (b : Byte) (l : List Todo) (s : State) : (s.rbPut b l).rb = s.rb.put b := rfl
@[simp] theorem State.rbPut_mb (b : Byte) (l : List Todo) (s : State) : (s.rbPut b l).mb = s.mb := rfl
@[simp] theorem State.rbPut_cmd (b : Byte) (l : List Todo) (s : State) : (s.rbPut b l).cmd = s.cmd := rfl
@[simp] theorem State.rbPut_sd (b : Byte) (l : List Todo) (s : State) : (s.rbPut b l).sd = s.sd := rfl
@[simp] theorem State.rbPut_err (b : Byte) (l : List Todo) (s : State) : (s.rbPut b l).err = s.err := rfl
@[simp] theorem State.rbPut_wbits (b : Byte) (l : List Todo) (s : State) : (s.rbPut b l).wbits = s.wbits := rfl
@[simp] theorem State.rbPut_snk (b : Byte) (l : List Todo) (s : State) : (s.rbPut b l).snk = s.snk := rfl
@[simp] theorem State.rbPut_env (b : Byte) (l : List Todo) (s : State) : (s.rbPut b l).env = s.env := rfl
@[simp] theorem State.rbPut_res (b : Byte) (l : List Todo) (s : State) : (s.rbPut b l).res = s.res := rfl
@[simp] theorem State.rbPut_free (b : Byte) (l : List Todo) (s : State) : (s.rbPut b l).free = s.free := rfl

@[simp] theorem State.returnVal_par (v : Nat) (s : State) : (s.returnVal v).par = s.par := rfl
@[simp] theorem State.returnVal_st (v : Nat) (s : State) : (s.returnVal v).st = s.st := rfl
@[simp] theorem State.returnVal_q (v : Nat) (s : State) : (s.returnVal v).q = s.q := rfl
@[simp] theorem State.returnVal_qsize (v : Nat) (s : State) : (s.returnVal v).qsize = s.qsize := rfl
@[simp] theorem State.returnVal_todo (v : Nat) (s : State) : (s.returnVal v).todo = s.todo := rfl
@[simp] theorem State.returnVal_visit (v : Nat) (s : State) : (s.returnVal v).visit = s.visit := rfl
@[simp] theorem State.returnVal_br (v : Nat) (s : State) : (s.returnVal v).br = s.br := rfl
@[simp] theorem State.returnVal_ht (v : Nat) (s : State) : (s.returnVal v).ht = s.ht := rfl
@[simp] theorem State.returnVal_hd (v : Nat) (s : State) : (s.returnVal v).hd = s.hd := rfl
@[simp] theorem State.returnVal_cm (v : Nat) (s : State) : (s.returnVal v).cm = s.cm := rfl
@[simp] theorem State.returnVal_blk (v : Nat) (s : State) : (s.returnVal v).blk = s.blk := rfl
@[simp] theorem State.returnVal_dr (v : Nat) (s : State) : (s.returnVal v).dr = s.dr := rfl
@[simp] theorem State.returnVal_rb (v : Nat) (s : State) : (s.returnVal v).rb = s.rb := rfl
@[simp] theorem State.returnVal_mb (v : Nat) (s : State) : (s.returnVal v).mb = s.mb := rfl
@[simp] theorem State.returnVal_cmd (v : Nat) (s : State) : (s.returnVal v).cmd = s.cmd := rfl
@[simp] theorem State.returnVal_sd (v : Nat) (s : State) : (s.returnVal v).sd = s.sd := rfl
@[simp] theorem State.returnVal_err (v : Nat) (s : State) : (s.returnVal v).err = s.err := rfl
@[simp] theorem State.returnVal_wbits (v : Nat) (s : State) : (s.returnVal v).wbits = s.wbits := rfl
@[simp] theorem State.returnVal_snk (v : Nat) (s : State) : (s.returnVal v).snk = s.snk := rfl
@[simp] theorem State.returnVal_env (v : Nat) (s : State) : (s.returnVal v).env = s.env := rfl
@[simp] theorem State.returnVal_res (v : Nat) (s : State) : (s.returnVal v).res = { s.res with val := v } := rfl
@[simp] theorem State.returnVal_free (v : Nat) (s : State) : (s.returnVal v).free = s.free := rfl

@[simp] theorem State.returnPeek_par (v : Nat) (s : State) : (s.returnPeek v).par = s.par := rfl
@[simp] theorem State.returnPeek_st (v : Nat) (s : State) : (s.returnPeek v).st = s.st := rfl
@[simp] theorem State.returnPeek_q (v : Nat) (s : State) : (s.returnPeek v).q = s.q := rfl
@[simp] theorem State.returnPeek_qsize (v : Nat) (s : State) : (s.returnPeek v).qsize = s.qsize := rfl
@[simp] theorem State.returnPeek_todo (v : Nat) (s : State) : (s.returnPeek v).todo = s.todo := rfl
@[simp] theorem State.returnPeek_visit (v : Nat) (s : State) : (s.returnPeek v).visit = s.visit := rfl
@[simp] theorem State.returnPeek_br (v : Nat) (s : State) : (s.returnPeek v).br = s.br := rfl
@[simp] theorem State.returnPeek_ht (v : Nat) (s : State) : (s.returnPeek v).ht = s.ht := rfl
@[simp] theorem State.returnPeek_hd (v : Nat) (s : State) : (s.returnPeek v).hd = s.hd := rfl
@[simp] theorem State.returnPeek_cm (v : Nat) (s : State) : (s.returnPeek v).cm = s.cm := rfl
@[simp] theorem State.returnPeek_blk (v : Nat) (s : State) : (s.returnPeek v).blk = s.blk := rfl
@[simp] theorem State.returnPeek_dr (v : Nat) (s : State) : (s.returnPeek v).dr = s.dr := rfl
@[simp] theorem State.returnPeek_rb (v : Nat) (s : State) : (s.returnPeek v).rb = s.rb := rfl
@[simp] theorem State.returnPeek_mb (v : Nat) (s : State) : (s.returnPeek v).mb = s.mb := rfl
@[simp] theorem State.returnPeek_cmd (v : Nat) (s : State) : (s.returnPeek v).cmd = s.cmd := rfl
@[simp] theorem State.returnPeek_sd (v : Nat) (s : State) : (s.returnPeek v).sd = s.sd := rfl
@[simp] theorem State.returnPeek_err (v : Nat) (s : State) : (s.returnPeek v).err = s.err := rfl
@[simp] theorem State.returnPeek_wbits (v : Nat) (s : State) : (s.returnPeek v).wbits = s.wbits := rfl
@[simp] theorem State.returnPeek_snk (v : Nat) (s : State) : (s.returnPeek v).snk = s.snk := rfl
@[simp] theorem State.returnPeek_env (v : Nat) (s : State) : (s.returnPeek v).env = s.env := rfl
@[simp] theorem State.returnPeek_res (v : Nat) (s : State) : (s.returnPeek v).res = { s.res with val := v } := rfl
@[simp] theorem State.returnPeek_free (v : Nat) (s : State) : (s.returnPeek v).free = s.free := rfl

@[simp] theorem State.setInsert_par (n : Nat) (s : State) : (s.setInsert n).par = s.par := rfl
@[simp] theorem State.setInsert_st (n : Nat) (s : State) : (s.setInsert n).st = s.st := rfl
@[simp] theorem State.setInsert_q (n : Nat) (s : State) : (s.setInsert n).q = s.q := rfl
@[simp] theorem State.setInsert_qsize (n : Nat) (s : State) : (s.setInsert n).qsize = s.qsize := rfl
@[simp] theorem State.setInsert_todo (n : Nat) (s : State) : (s.setInsert n).todo = s.todo := rfl
@[simp] theorem State.setInsert_visit (n : Nat) (s : State) : (s.setInsert n).visit = s.visit := rfl
@[simp] theorem State.setInsert_br (n : Nat) (s : State) : (s.setInsert n).br = s.br := rfl
@[simp] theorem State.setInsert_ht (n : Nat) (s : State) : (s.setInsert n).ht = s.ht := rfl
@[simp] theorem State.setInsert_hd (n : Nat) (s : State) : (s.setInsert n).hd = s.hd := rfl
@[simp] theorem State.setInsert_cm (n : Nat) (s : State) : (s.setInsert n).cm = s.cm := rfl
@[simp] theorem State.setInsert_blk (n : Nat) (s : State) : (s.setInsert n).blk = s.blk := rfl
@[simp] theorem State.setInsert_dr (n : Nat) (s : State) : (s.setInsert n).dr = s.dr := rfl
@[simp] theorem State.setInsert_rb (n : Nat) (s : State) : (s.setInsert n).rb = s.rb := rfl
@[simp] theorem State.setInsert_mb (n : Nat) (s : State) : (s.setInsert n).mb = s.mb := rfl
@[simp] theorem State.setInsert_cmd (n : Nat) (s : State) : (s.setInsert n).cmd = { s.cmd with ins := n } := rfl
@[simp] theorem State.setInsert_sd (n : Nat) (s : State) : (s.setInsert n).sd = s.sd := rfl
@[simp] theorem State.setInsert_err (n : Nat) (s : State) : (s.setInsert n).err = s.err := rfl
@[simp] theorem State.setInsert_wbits (n : Nat) (s : State) : (s.setInsert n).wbits = s.wbits := rfl
@[simp] theorem State.setInsert_snk (n : Nat) (s : State) : (s.setInsert n).snk = s.snk := rfl
@[simp] theorem State.setInsert_env (n : Nat) (s : State) : (s.setInsert n).env = s.env := rfl
@[simp] theorem State.setInsert_res (n : Nat) (s : State) : (s.setInsert n).res = s.res := rfl
@[simp] theorem State.setInsert_free (n : Nat) (s : State) : (s.setInsert n).free = s.free := rfl

@[simp] theorem State.setCopy_par (n : Nat) (s : State) : (s.setCopy n).par = s.par := rfl
@[simp] theorem State.setCopy_st (n : Nat) (s : State) : (s.setCopy n).st = s.st := rfl
@[simp] theorem State.setCopy_q (n : Nat) (s : State) : (s.setCopy n).q = s.q := rfl
@[simp] theorem State.setCopy_qsize (n : Nat) (s : State) : (s.setCopy n).qsize = s.qsize := rfl
@[simp] theorem State.setCopy_todo (n : Nat) (s : State) : (s.setCopy n).todo = s.todo := rfl
@[simp] theorem State.setCopy_visit (n : Nat) (s : State) : (s.setCopy n).visit = s.visit := rfl
@[simp] theorem State.setCopy_br (n : Nat) (s : State) : (s.setCopy n).br = s.br := rfl
@[simp] theorem State.setCopy_ht (n : Nat) (s : State) : (s.setCopy n).ht = s.ht := rfl
@[simp] theorem State.setCopy_hd (n : Nat) (s : State) : (s.setCopy n).hd = s.hd := rfl
@[simp] theorem State.setCopy_cm (n : Nat) (s : State) : (s.setCopy n).cm = s.cm := rfl
@[simp] theorem State.setCopy_blk (n : Nat) (s : State) : (s.setCopy n).blk = s.blk := rfl
@[simp] theorem State.setCopy_dr (n : Nat) (s : State) : (s.setCopy n).dr = s.dr := rfl
@[simp] theorem State.setCopy_rb (n : Nat) (s : State) : (s.setCopy n).rb = s.rb := rfl
@[simp] theorem State.setCopy_mb (n : Nat) (s : State) : (s.setCopy n).mb = s.mb := rfl
@[simp] theorem State.setCopy_cmd (n : Nat) (s : State) : (s.setCopy n).cmd = { s.cmd with cpy := n } := rfl
@[simp] theorem State.setCopy_sd (n : Nat) (s : State) : (s.setCopy n).sd = s.sd := rfl
@[simp] theorem State.setCopy_err (n : Nat) (s : State) : (s.setCopy n).err = s.err := rfl
@[simp] theorem State.setCopy_wbits (n : Nat) (s : State) : (s.setCopy n).wbits = s.wbits := rfl
@[simp] theorem State.setCopy_snk (n : Nat) (s : State) : (s.setCopy n).snk = s.snk := rfl
@[simp] theorem State.setCopy_env (n : Nat) (s : State) : (s.setCopy n).env = s.env := rfl
@[simp] theorem State.setCopy_res (n : Nat) (s : State) : (s.setCopy n).res = s.res := rfl
@[simp] theorem State.setCopy_free (n : Nat) (s : State) : (s.setCopy n).free = s.free := rfl

@[simp] theorem State.sessionReset_par (s : State) : s.sessionReset.par = s.par := rfl
@[simp] theorem State.sessionReset_st (s : State) : s.sessionReset.st = State.reset.st := rfl
@[simp] theorem State.sessionReset_q (s : State) : s.sessionReset.q = State.reset.q := rfl
@[simp] theorem State.sessionReset_qsize (s : State) : s.sessionReset.qsize = State.reset.qsize := rfl
@[simp] theorem State.sessionReset_todo (s : State) : s.sessionReset.todo = State.reset.todo := rfl
@[simp] theorem State.sessionReset_visit (s : State) : s.sessionReset.visit = State.reset.visit := rfl
@[simp] theorem State.sessionReset_br (s : State) : s.sessionReset.br = State.reset.br := rfl
@[simp] theorem State.sessionReset_ht (s : State) : s.sessionReset.ht = State.reset.ht := rfl
@[simp] theorem State.sessionReset_hd (s : State) : s.sessionReset.hd = State.reset.hd := rfl
@[simp] theorem State.sessionReset_cm (s : State) : s.sessionReset.cm = State.reset.cm := rfl
@[simp] theorem State.sessionReset_blk (s : State) : s.sessionReset.blk = State.reset.blk := rfl
@[simp] theorem State.sessionReset_dr (s : State) : s.sessionReset.dr = State.reset.dr := rfl
@[simp] theorem State.sessionReset_rb (s : State) : s.sessionReset.rb = { Ring.reset with mem := s.rb.mem } := rfl
@[simp] theorem State.sessionReset_mb (s : State) : s.sessionReset.mb = State.reset.mb := rfl
@[simp] theorem State.sessionReset_cmd (s : State) : s.sessionReset.cmd = State.reset.cmd := rfl
@[simp] theorem State.sessionReset_sd (s : State) : s.sessionReset.sd = State.reset.sd := rfl
@[simp] theorem State.sessionReset_err (s : State) : s.sessionReset.err = State.reset.err := rfl
@[simp] theorem State.sessionReset_wbits (s : State) : s.sessionReset.wbits = s.wbits := rfl
@[simp] theorem State.sessionReset_snk (s : State) : s.sessionReset.snk = ⟨none, s.snk.out⟩ := rfl
@[simp] theorem State.sessionReset_env (s : State) : s.sessionReset.env = s.env := rfl
@[simp] theorem State.sessionReset_res (s : State) : s.sessionReset.res = State.reset.res := rfl
@[simp] theorem State.sessionReset_free (s : State) : s.sessionReset.free = s.free := rfl

end Sys2Proof.Machine
end

