-- ==== Sys2Proof/Laws/Ops.lean ====
section
/-! SUPPORT. What each shared operation can do, said once. -/

namespace Sys2Proof.Machine

/-- R200: everything `RB.GET` can answer. -/
theorem State.rbGet_cases (s : State) (d : Nat) :
    (1 ≤ d ∧ d ≤ s.maxDistance ∧ s.rbGet d = .byte (memRead s.rb.mem ((s.rb.pos - d) % s.rb.size))) ∨
    (¬ (1 ≤ d ∧ d ≤ s.maxDistance) ∧ s.rbGet d = .stop .outsideSpace) := by
  simp only [State.rbGet]
  by_cases h : 1 ≤ d ∧ d ≤ s.maxDistance
  · exact .inl ⟨h.1, h.2, by simp [h]⟩
  · exact .inr ⟨h, by simp [h]⟩

/-- R203, R204: everything `RB.FLUSH` can answer. -/
theorem State.rbFlush_cases (s : State) :
    (s.flushLen = 0 ∧ s.rbFlush = s) ∨
    (s.flushLen ≠ 0 ∧ s.rbFlush = { s with snk := { s.snk with offer := some (memRange s.rb.mem 0 s.flushLen) } }) := by
  simp only [State.rbFlush]
  by_cases h : s.flushLen = 0
  · exact .inl ⟨h, by simp [h]⟩
  · exact .inr ⟨h, by simp [h]⟩

/-- R131, R306: everything an operation does with the answer of its reads. -/
theorem State.onTaken_cases (i : Instr) (t : Taken) (f : State → State) (s : State) :
    (∃ b, t = .ok b ∧ s.onTaken i t f = .next (f { s with br := b })) ∨
    (t = .hold ∧ s.onTaken i t f = .next (s.hold i)) ∨
    (∃ k b, t = .fail k b ∧ s.onTaken i t f = .next (State.raise k 0 { s with br := b })) := by
  cases t with
  | ok b => exact .inl ⟨b, rfl, rfl⟩
  | hold => exact .inr (.inl ⟨rfl, rfl⟩)
  | fail k b => exact .inr (.inr ⟨k, b, rfl, rfl⟩)

/-- R266: everything the resolution of a distance code can do. -/
theorem State.resolveCode_cases (s : State) (c : Nat) :
    (16 ≤ c ∧ s.resolveCode c = { s with cmd := { s.cmd with dcode := c, dist := c - 15 } }) ∨
    (c < 16 ∧ 0 < s.dr.short c ∧
      s.resolveCode c = { s with cmd := { s.cmd with dcode := c, dist := (s.dr.short c).toNat } }) ∨
    (c < 16 ∧ s.dr.short c ≤ 0 ∧
      s.resolveCode c = State.raise .invalidBackwardReference 1 { s with cmd := { s.cmd with dcode := c } }) := by
  simp only [State.resolveCode]
  by_cases h : c < 16
  · by_cases h2 : s.dr.short c ≤ 0
    · exact .inr (.inr ⟨h, h2, by simp [h, h2]⟩)
    · exact .inr (.inl ⟨h, by omega, by simp [h, h2]⟩)
  · exact .inl ⟨by omega, by simp [h]⟩

/-- R219: everything `SD.LOOKUP` can do. -/
theorem State.sdLookup_cases (len wordId : Nat) (s : State) :
    (dictLength len = false ∧ s.sdLookup len wordId = s.raise .invalidDictionaryReference 1) ∨
    (dictLength len = true ∧ s.par.nTransforms ≤ dictTransform len wordId ∧
      s.sdLookup len wordId = s.raise .invalidDictionaryReference 2) ∨
    (∃ w, dictLength len = true ∧ dictTransform len wordId < s.par.nTransforms ∧
      dictResult s.par.transforms len wordId = some w ∧
      s.sdLookup len wordId = { s with sd := { out := w, outlen := w.length, outidx := 0 } }) := by
  simp only [State.sdLookup, dictResult, Config.Params.nTransforms]
  cases h1 : dictLength len with
  | false => exact .inl ⟨rfl, by simp⟩
  | true =>
    by_cases h2 : s.par.transforms.length ≤ dictTransform len wordId
    · exact .inr (.inl ⟨rfl, h2, by simp [List.getElem?_eq_none h2]⟩)
    · have h3 : dictTransform len wordId < s.par.transforms.length := by omega
      exact .inr (.inr ⟨_, rfl, h3, by rw [List.getElem?_eq_getElem h3]; rfl, by simp [List.getElem?_eq_getElem h3]⟩)

/-- R150, R306: a fault neither makes a table valid nor invalidates one. -/
theorem lookupTable_afterFault (n : Nat) (h : TableRam) (r : TableRef) :
    (lookupTable (tablesAfterFault n h) r).isSome = (lookupTable h r).isSome := by
  cases r with
  | bt c => cases c <;> simp [lookupTable, tablesAfterFault, PerCat.get]
  | bl c => cases c <;> simp [lookupTable, tablesAfterFault, PerCat.get]
  | cm => simp [lookupTable, tablesAfterFault]
  | clc => simp [lookupTable, tablesAfterFault]
  | tgL i => simp [lookupTable, tablesAfterFault]
  | tgI i => simp [lookupTable, tablesAfterFault]
  | tgD i => simp [lookupTable, tablesAfterFault]

/-- R185: everything the write of a map entry can do. -/
theorem State.putEntry_cases (v : Nat) (s : State) :
    (s.cm.i < s.cm.m.length ∧ s.putEntry v =
      .next { s with cm := { s.cm with m := s.cm.m.set s.cm.i (BitVec.ofNat 8 v), i := s.cm.i + 1 } }) ∨
    (s.cm.m.length ≤ s.cm.i ∧ s.putEntry v = .fault .outsideSpace) := by
  simp only [State.putEntry]
  by_cases h : s.cm.i < s.cm.m.length
  · exact .inl ⟨h, by simp [h]⟩
  · exact .inr ⟨by omega, by simp [h]⟩

/-- R15: everything the naming of a built table can do. -/
theorem State.storeBuilt_cases (r : TableRef) (s : State) :
    (∃ t, s.ht.out = some t ∧ s.storeBuilt r = .next { s with ht := storeTable s.ht r t }) ∨
    (s.ht.out = none ∧ s.storeBuilt r = .fault .invalidTable) := by
  simp only [State.storeBuilt]
  cases h : s.ht.out with
  | some t => exact .inl ⟨t, rfl, rfl⟩
  | none => exact .inr ⟨rfl, rfl⟩

/-- R235: everything `START` can do. -/
theorem State.start_cases (s : State) :
    (s.st.noSession = true ∧ 10 ≤ s.wbits.toNat ∧ s.wbits.toNat ≤ 24 ∧ s.start =
      { s.sessionReset with rb := { s.sessionReset.rb with winBits := s.wbits.toNat }, st := .mbBegin }) ∨
    (¬ (s.st.noSession = true ∧ 10 ≤ s.wbits.toNat ∧ s.wbits.toNat ≤ 24) ∧ s.start = s) := by
  simp only [State.start]
  by_cases h : s.st.noSession = true ∧ 10 ≤ s.wbits.toNat ∧ s.wbits.toNat ≤ 24
  · exact .inl ⟨h.1, h.2.1, h.2.2, by simp [h]⟩
  · exact .inr ⟨h, by rw [if_neg h]⟩

/-- R280: everything `SIZEQ` can do. -/
theorem State.sizeq_cases (s : State) :
    (s.st.noSession = true ∧ s.sizeq = { s.sessionReset with q := true, st := .mbHeader }) ∨
    (s.st.noSession = false ∧ s.sizeq = s) := by
  simp only [State.sizeq]
  cases h : s.st.noSession with
  | true => exact .inl ⟨rfl, rfl⟩
  | false => exact .inr ⟨rfl, rfl⟩

end Sys2Proof.Machine
end

