-- ==== Sys2Proof/Laws/Register.lean ====
section
/-! SUPPORT. The refinement relation of the register form of the bit reader (R14) is kept by every operation of the unit. -/

namespace Sys2Proof.Machine

/-- R14 without `BR.NVALID`. -/
def BitReader.FormOk (b : BitReader) : Prop :=
  (b.bytepos ≤ b.input.length ∨ b.eos = true) ∧ b.cur + 32 = 8 * b.bytepos + b.bitpos ∧ b.val = regWord b.input b.bytepos

theorem BitReader.registerOk_iff (b : BitReader) : b.RegisterOk ↔ b.FormOk ∧ b.nvalid = b.countValid := by
  simp only [BitReader.RegisterOk, BitReader.FormOk, and_assoc]

/-- R320: the empty register after reset. -/
theorem reset_registerOk : BitReader.reset.RegisterOk := by
  refine ⟨.inl (Nat.le_refl 0), rfl, ?_, rfl⟩
  simp [BitReader.reset]

theorem BitReader.FormOk.shiftIn {b : BitReader} (h : b.FormOk) (h8 : 8 ≤ b.bitpos) (hr : b.byteReady = true) :
    b.shiftIn.FormOk := by
  obtain ⟨h1, h2, h3⟩ := h
  simp only [BitReader.byteReady, Bool.or_eq_true, decide_eq_true_eq] at hr
  refine ⟨hr.imp_left Nat.succ_le_of_lt, ?_, ?_⟩
  · show b.cur + 32 = 8 * (b.bytepos + 1) + (b.bitpos - 8)
    omega
  · simp only [BitReader.shiftIn, h3]
    exact regWord_shift _ _

theorem BitReader.FormOk.shiftLoop {b : BitReader} (h : b.FormOk) (n : Nat) : (BitReader.shiftLoop n b).FormOk := by
  induction n generalizing b with
  | zero => exact h
  | succ n ih =>
    simp only [BitReader.shiftLoop]
    split
    · rename_i h1
      exact ih (h.shiftIn h1.1 h1.2)
    · exact h

/-- R132: the first fill gives the relation. -/
theorem BitReader.FormOk.firstFill {b : BitReader} (h : b.FormOk) : b.firstFill.FormOk := by
  simp only [BitReader.firstFill]
  split
  · rename_i h1
    obtain ⟨-, h2, -⟩ := h
    refine ⟨h1.2.2, ?_, rfl⟩
    show b.cur + 32 = 8 * 4 + 0
    have h0 := h1.1
    have h3 : b.bitpos = 32 := h1.2.1
    omega
  · exact h

/-- R132: `BR.FILL` keeps the relation. -/
theorem BitReader.RegisterOk.fill {b : BitReader} (h : b.RegisterOk) : b.fill.RegisterOk :=
  (BitReader.registerOk_iff _).2 ⟨(((b.registerOk_iff).1 h).1.firstFill).shiftLoop (b.firstFill.bitpos / 8), rfl⟩

/-- R135: a consume keeps the relation. -/
theorem BitReader.RegisterOk.advance {b : BitReader} (h : b.RegisterOk) (n : Nat) : (b.advance n).RegisterOk := by
  obtain ⟨h1, h2, h3, -⟩ := h
  refine ⟨h1, ?_, h3, rfl⟩
  show b.cur + n + 32 = 8 * b.bytepos + (b.bitpos + n)
  omega

/-- The reads of an element keep the relation. -/
theorem BitReader.RegisterOk.takeAll_ok {p : Config.Params} {fs : List Field} {b c : BitReader} (hb : b.RegisterOk)
    (h : BitReader.takeAll p b fs = .ok c) : c.RegisterOk := by
  induction fs generalizing b with
  | nil => simp only [BitReader.takeAll, Taken.ok.injEq] at h; exact h ▸ hb
  | cons f fs ih =>
    simp only [BitReader.takeAll] at h
    cases h1 : b.fill.take p f with
    | ok d => rw [h1] at h; exact ih ((BitReader.take_ok h1).1 ▸ hb.fill.advance _) h
    | hold => rw [h1] at h; cases h
    | fail e d => rw [h1] at h; cases h

/-- A read that faults keeps the relation. -/
theorem BitReader.RegisterOk.takeAll_fail {p : Config.Params} {fs : List Field} {b c : BitReader} {k : ErrKind}
    (hb : b.RegisterOk) (h : BitReader.takeAll p b fs = .fail k c) : c.RegisterOk := by
  induction fs generalizing b with
  | nil => simp [BitReader.takeAll] at h
  | cons f fs ih =>
    simp only [BitReader.takeAll] at h
    cases h1 : b.fill.take p f with
    | ok d => rw [h1] at h; exact ih ((BitReader.take_ok h1).1 ▸ hb.fill.advance _) h
    | hold => rw [h1] at h; cases h
    | fail e d => rw [h1] at h; cases h; exact (BitReader.take_fail h1).1 ▸ hb.fill

/-- R300: a delivery keeps the relation. -/
theorem BitReader.RegisterOk.append {b : BitReader} (h : b.RegisterOk) (he : b.eos = false) (l : List Byte) :
    ({ b with input := b.input ++ l } : BitReader).RegisterOk := by
  obtain ⟨h1, h2, h3, h4⟩ := h
  have hl : b.bytepos ≤ b.input.length := by simpa [he] using h1
  refine ⟨.inl ?_, h2, ?_, ?_⟩
  · simp; omega
  · show b.val = _
    rw [h3]
    exact (regWord_append hl).symm
  · rw [h4]
    simp only [BitReader.countValid, BitReader.avail, List.length_append]
    omega

/-- R300: end of input keeps the relation. -/
theorem BitReader.RegisterOk.setEos {b : BitReader} (h : b.RegisterOk) : ({ b with eos := true } : BitReader).RegisterOk :=
  ⟨.inr rfl, h.2.1, h.2.2.1, h.2.2.2⟩

/-- R300: a failure of the source keeps the relation. -/
theorem BitReader.RegisterOk.setSrcErr {b : BitReader} (h : b.RegisterOk) :
    ({ b with srcErr := true } : BitReader).RegisterOk := h

end Sys2Proof.Machine
end

