-- ==== Sys2Proof/Tests/Slice0.lean ====
section
/-! SUPPORT. Tests on fixed values: well-formedness refuses ill-formed terms; words written out from the spec's encodings decode
to their instructions; single steps against the spec's worked examples; and for every statement with hypotheses a witness,
named `witness_<statement>`, that meets them. Expected values are the spec's (the rule is named in each comment). -/

namespace Sys2Proof.Tests

open Sys2Proof Sys2Proof.Machine

/-- A part of the next state; none where there is no next state. -/
def after {α : Type} (r : Result) (f : State → α) : Option α :=
  match r with
  | .next s => some (f s)
  | _ => none

/-- The fault of an outcome. -/
def faultOf (r : Result) : Option Fault :=
  match r with
  | .fault f => some f
  | _ => none

/-- The reset state with this input, its end reported or not, and this cursor. -/
def withInput (l : List Byte) (e : Bool) (c : Nat) : State :=
  { State.reset with br := { BitReader.reset with input := l, eos := e, cur := c, bitpos := c + 32 } }

/-- A session with this state and this agenda, on DEC's turn. -/
def inSession (s : State) (t : St) (l : List Todo) : State :=
  { s with st := t, todo := l, env := { s.env with turns := [.dec] } }

/-- The reset state with a window of 1024 bytes at this position. -/
def withWindow (p : Nat) (m : Mem) : State :=
  { State.reset with rb := { Ring.reset with mem := m, pos := p, winBits := 10 } }

/-! ## Well-formedness -/

/-- R91, R93 to R95, R104, R187, R188: a field value outside its field, at the first value outside. -/
theorem test_wellformed_refuses_fields : ([
    .mnibbles 4, .mlenNibble 16, .pad 8 0, .pad 2 4, .varlen8N 0 0, .varlen8N 8 0, .varlen8N 1 2, .nbltypes 256,
    .blenFirst 26 0, .blenFirst 0 4, .npostfix 4, .ndirectHi 16, .ntrees 256, .rlemax 16, .cmsymRun 0, .cmsymRun 17,
    .cmsymTree 0, .cmsymTree 512, .cmrun 0 0, .cmrun 17 0, .cmrun 1 2, .nsym 4, .simpleSym 11 0, .simpleSym 2 4,
    .clrepExtra16 4, .clrepExtra17 8, .btsymExplicit 1, .btsymExplicit 258] : List Instr).all (fun i => !i.WellFormed) = true := by decide

/-- R246: extra bits that do not fit their code. -/
theorem test_wellformed_refuses_block_lengths : ([
    .blen0 (2 ^ 2), .blen1 (2 ^ 2), .blen2 (2 ^ 2), .blen3 (2 ^ 2), .blen4 (2 ^ 3), .blen5 (2 ^ 3), .blen6 (2 ^ 3),
    .blen7 (2 ^ 3), .blen8 (2 ^ 4), .blen9 (2 ^ 4), .blen10 (2 ^ 4), .blen11 (2 ^ 4), .blen12 (2 ^ 5), .blen13 (2 ^ 5),
    .blen14 (2 ^ 5), .blen15 (2 ^ 5), .blen16 (2 ^ 6), .blen17 (2 ^ 6), .blen18 (2 ^ 7), .blen19 (2 ^ 8),
    .blen20 (2 ^ 9), .blen21 (2 ^ 10), .blen22 (2 ^ 11), .blen23 (2 ^ 12), .blen24 (2 ^ 13), .blen25 (2 ^ 24)] : List Instr).all (fun i => !i.WellFormed) = true := by decide

/-- R108, R247, R248: sub-indexes and extra bits that do not fit. -/
theorem test_wellformed_refuses_commands : ([
    .cmdsymCell0 8 0, .cmdsymCell1 8 0, .cmdsymCell2 8 0, .cmdsymCell3 8 0, .cmdsymCell4 8 0, .cmdsymCell5 8 0,
    .cmdsymCell6 8 0, .cmdsymCell7 8 0, .cmdsymCell8 8 0, .cmdsymCell9 8 0, .cmdsymCell10 8 0, .cmdsymCell0 0 8,
    .cmdsymCell1 0 8, .cmdsymCell2 0 8, .cmdsymCell3 0 8, .cmdsymCell4 0 8, .cmdsymCell5 0 8, .cmdsymCell6 0 8,
    .cmdsymCell7 0 8, .cmdsymCell8 0 8, .cmdsymCell9 0 8, .cmdsymCell10 0 8, .ins6 (2 ^ 1), .ins7 (2 ^ 1),
    .ins8 (2 ^ 2), .ins9 (2 ^ 2), .ins10 (2 ^ 3), .ins11 (2 ^ 3), .ins12 (2 ^ 4), .ins13 (2 ^ 4), .ins14 (2 ^ 5),
    .ins15 (2 ^ 5), .ins16 (2 ^ 6), .ins17 (2 ^ 7), .ins18 (2 ^ 8), .ins19 (2 ^ 9), .ins20 (2 ^ 10), .ins21 (2 ^ 12),
    .ins22 (2 ^ 14), .ins23 (2 ^ 24), .cpy8 (2 ^ 1), .cpy9 (2 ^ 1), .cpy10 (2 ^ 2), .cpy11 (2 ^ 2), .cpy12 (2 ^ 3),
    .cpy13 (2 ^ 3), .cpy14 (2 ^ 4), .cpy15 (2 ^ 4), .cpy16 (2 ^ 5), .cpy17 (2 ^ 5), .cpy18 (2 ^ 6), .cpy19 (2 ^ 7),
    .cpy20 (2 ^ 8), .cpy21 (2 ^ 9), .cpy22 (2 ^ 10), .cpy23 (2 ^ 24)] : List Instr).all (fun i => !i.WellFormed) = true := by decide

/-- R109, R265, R113: distance symbols, extra bits and operands outside the ranges of their rules. -/
theorem test_wellformed_refuses_operands : ([
    .distsymDirect 15, .distsymDirect 136, .distsymLong 15, .distsymLong 520, .distExtra 0 0, .distExtra 25 0,
    .distExtra 1 2, .brPeek 25, .brDrop 25, .brRead 25, .htBuild .len 0 8, .htBuild .len 705 8, .htBuild .len 2 16,
    .hdReadcode 1, .hdReadcode 705, .hdSimple 1, .hdSimple 705, .hdComplex 1 0, .hdComplex 705 0, .hdComplex 2 1,
    .cmDecode 0, .cmDecode 16385, .rbGet 0, .rbCopy 0 1, .sdTransform [] 121] : List Instr).all (fun i => !i.WellFormed) = true := by decide

/-! ## Decoding of words written out from the encodings (first stream bit in bit 0) -/

/-- R93, R94, R104: the meta-block header, padding, raw bytes, `VARLEN8`. -/
theorem test_decode_header :
    (decodeElem .islast 0b1).map Prod.fst = some (.islast true) ∧
    (decodeElem .islast 0b10).map Prod.fst = some (.islast false) ∧
    (decodeElem .isempty 0b1).map Prod.fst = some (.isempty true) ∧
    (decodeElem .mnibbles 0b10).map Prod.fst = some (.mnibbles 2) ∧
    (decodeElem .mlenNibble 0b1101).map Prod.fst = some (.mlenNibble 13) ∧
    (decodeElem .isuncompressed 0b1).map Prod.fst = some (.isuncompressed true) ∧
    (decodeElem (.pad 4) 0b0110).map Prod.fst = some (.pad 4 6) ∧
    (decodeElem .rawbyte 0x41).map Prod.fst = some (.rawbyte 0x41) ∧
    (decodeElem .varlen8 0b0).map Prod.fst = some .varlen8Zero ∧
    (decodeElem .varlen8 0b0001).map Prod.fst = some .varlen8One ∧
    (decodeElem .varlen8 0b10011).map Prod.fst = some (.varlen8N 1 1) := by
  decide

/-- R94, R244, R245, R262, R186, R189: the fields of the compressed-body header and of the context maps. -/
theorem test_decode_body_header :
    (decodeElem .nbltypes 0b10011).map Prod.fst = some (.nbltypes 3) ∧
    (decodeElem (.blenFirst (singleTable 0 4)) 0b101).map Prod.fst = some (.blenFirst 4 5) ∧
    (decodeElem .npostfix 0b11).map Prod.fst = some (.npostfix 3) ∧
    (decodeElem .ndirectHi 0b0011).map Prod.fst = some (.ndirectHi 3) ∧
    (decodeElem .cmode 0b00).map Prod.fst = some .cmodeLsb6 ∧
    (decodeElem .cmode 0b01).map Prod.fst = some .cmodeMsb6 ∧
    (decodeElem .cmode 0b10).map Prod.fst = some .cmodeUtf8 ∧
    (decodeElem .cmode 0b11).map Prod.fst = some .cmodeSigned ∧
    (decodeElem .ntrees 0b0001).map Prod.fst = some (.ntrees 1) ∧
    (decodeElem .rleflag 0b1).map Prod.fst = some (.rleflag true) ∧
    (decodeElem .rlemax 0b0100).map Prod.fst = some (.rlemax 4) ∧
    (decodeElem (.cmsym (singleTable 0 0) 5) 0).map Prod.fst = some .cmsymZero ∧
    (decodeElem (.cmsym (singleTable 0 5) 5) 0).map Prod.fst = some (.cmsymRun 5) ∧
    (decodeElem (.cmsym (singleTable 0 6) 5) 0).map Prod.fst = some (.cmsymTree 6) ∧
    (decodeElem (.cmrun 5) 0b11111).map Prod.fst = some (.cmrun 5 31) ∧
    (decodeElem .imtf 0b1).map Prod.fst = some (.imtf true) := by
  decide

/-- R95, R168, R169, R172, R175: the elements of a prefix-code description. -/
theorem test_decode_codes :
    (decodeElem .hskip 0b01).map Prod.fst = some .hskipSimple ∧
    (decodeElem .hskip 0b00).map Prod.fst = some .hskipComplex0 ∧
    (decodeElem .hskip 0b10).map Prod.fst = some .hskipComplex2 ∧
    (decodeElem .hskip 0b11).map Prod.fst = some .hskipComplex3 ∧
    (decodeElem .nsym 0b10).map Prod.fst = some (.nsym 2) ∧
    (decodeElem (.simpleSym 8) 0x61).map Prod.fst = some (.simpleSym 8 0x61) ∧
    (decodeElem .treeSelect 0b1).map Prod.fst = some (.treeSelect true) ∧
    (decodeElem .clcl 0b00).map Prod.fst = some .clcl0 ∧
    (decodeElem .clcl 0b0111).map Prod.fst = some .clcl1 ∧
    (decodeElem .clcl 0b011).map Prod.fst = some .clcl2 ∧
    (decodeElem .clcl 0b10).map Prod.fst = some .clcl3 ∧
    (decodeElem .clcl 0b01).map Prod.fst = some .clcl4 ∧
    (decodeElem .clcl 0b1111).map Prod.fst = some .clcl5 ∧
    (decodeElem .clrep16 0b10).map Prod.fst = some (.clrepExtra16 2) ∧
    (decodeElem .clrep17 0b101).map Prod.fst = some (.clrepExtra17 5) := by
  decide

/-- R111: code-length symbols 0 to 17. -/
theorem test_decode_code_lengths :
    (decodeElem (.clsym (singleTable 0 0)) 0).map Prod.fst = some .clsymLen0 ∧
    (decodeElem (.clsym (singleTable 0 1)) 0).map Prod.fst = some .clsymLen1 ∧
    (decodeElem (.clsym (singleTable 0 2)) 0).map Prod.fst = some .clsymLen2 ∧
    (decodeElem (.clsym (singleTable 0 3)) 0).map Prod.fst = some .clsymLen3 ∧
    (decodeElem (.clsym (singleTable 0 4)) 0).map Prod.fst = some .clsymLen4 ∧
    (decodeElem (.clsym (singleTable 0 5)) 0).map Prod.fst = some .clsymLen5 ∧
    (decodeElem (.clsym (singleTable 0 6)) 0).map Prod.fst = some .clsymLen6 ∧
    (decodeElem (.clsym (singleTable 0 7)) 0).map Prod.fst = some .clsymLen7 ∧
    (decodeElem (.clsym (singleTable 0 8)) 0).map Prod.fst = some .clsymLen8 ∧
    (decodeElem (.clsym (singleTable 0 9)) 0).map Prod.fst = some .clsymLen9 ∧
    (decodeElem (.clsym (singleTable 0 10)) 0).map Prod.fst = some .clsymLen10 ∧
    (decodeElem (.clsym (singleTable 0 11)) 0).map Prod.fst = some .clsymLen11 ∧
    (decodeElem (.clsym (singleTable 0 12)) 0).map Prod.fst = some .clsymLen12 ∧
    (decodeElem (.clsym (singleTable 0 13)) 0).map Prod.fst = some .clsymLen13 ∧
    (decodeElem (.clsym (singleTable 0 14)) 0).map Prod.fst = some .clsymLen14 ∧
    (decodeElem (.clsym (singleTable 0 15)) 0).map Prod.fst = some .clsymLen15 ∧
    (decodeElem (.clsym (singleTable 0 16)) 0).map Prod.fst = some .clsymRepeat ∧
    (decodeElem (.clsym (singleTable 0 17)) 0).map Prod.fst = some .clsymZeros := by
  decide

/-- R110, R246: block-type symbols 0, 1, 5, and every block length code with extra bits 1. -/
theorem test_decode_block_switch :
    (decodeElem (.btsym (singleTable 0 0)) 0).map Prod.fst = some .btsymPrev ∧
    (decodeElem (.btsym (singleTable 0 1)) 0).map Prod.fst = some .btsymNext ∧
    (decodeElem (.btsym (singleTable 0 5)) 0).map Prod.fst = some (.btsymExplicit 5) ∧
    (decodeElem (.blen (singleTable 0 0)) 1).map Prod.fst = some (.blen0 1) ∧
    (decodeElem (.blen (singleTable 0 1)) 1).map Prod.fst = some (.blen1 1) ∧
    (decodeElem (.blen (singleTable 0 2)) 1).map Prod.fst = some (.blen2 1) ∧
    (decodeElem (.blen (singleTable 0 3)) 1).map Prod.fst = some (.blen3 1) ∧
    (decodeElem (.blen (singleTable 0 4)) 1).map Prod.fst = some (.blen4 1) ∧
    (decodeElem (.blen (singleTable 0 5)) 1).map Prod.fst = some (.blen5 1) ∧
    (decodeElem (.blen (singleTable 0 6)) 1).map Prod.fst = some (.blen6 1) ∧
    (decodeElem (.blen (singleTable 0 7)) 1).map Prod.fst = some (.blen7 1) ∧
    (decodeElem (.blen (singleTable 0 8)) 1).map Prod.fst = some (.blen8 1) ∧
    (decodeElem (.blen (singleTable 0 9)) 1).map Prod.fst = some (.blen9 1) ∧
    (decodeElem (.blen (singleTable 0 10)) 1).map Prod.fst = some (.blen10 1) ∧
    (decodeElem (.blen (singleTable 0 11)) 1).map Prod.fst = some (.blen11 1) ∧
    (decodeElem (.blen (singleTable 0 12)) 1).map Prod.fst = some (.blen12 1) ∧
    (decodeElem (.blen (singleTable 0 13)) 1).map Prod.fst = some (.blen13 1) ∧
    (decodeElem (.blen (singleTable 0 14)) 1).map Prod.fst = some (.blen14 1) ∧
    (decodeElem (.blen (singleTable 0 15)) 1).map Prod.fst = some (.blen15 1) ∧
    (decodeElem (.blen (singleTable 0 16)) 1).map Prod.fst = some (.blen16 1) ∧
    (decodeElem (.blen (singleTable 0 17)) 1).map Prod.fst = some (.blen17 1) ∧
    (decodeElem (.blen (singleTable 0 18)) 1).map Prod.fst = some (.blen18 1) ∧
    (decodeElem (.blen (singleTable 0 19)) 1).map Prod.fst = some (.blen19 1) ∧
    (decodeElem (.blen (singleTable 0 20)) 1).map Prod.fst = some (.blen20 1) ∧
    (decodeElem (.blen (singleTable 0 21)) 1).map Prod.fst = some (.blen21 1) ∧
    (decodeElem (.blen (singleTable 0 22)) 1).map Prod.fst = some (.blen22 1) ∧
    (decodeElem (.blen (singleTable 0 23)) 1).map Prod.fst = some (.blen23 1) ∧
    (decodeElem (.blen (singleTable 0 24)) 1).map Prod.fst = some (.blen24 1) ∧
    (decodeElem (.blen (singleTable 0 25)) 1).map Prod.fst = some (.blen25 1) := by
  decide

/-- R108: a symbol of each cell, `64*cell + 8*i + c` with i = 1, c = 2. -/
theorem test_decode_commands :
    (decodeElem (.cmdsym (singleTable 0 10)) 0).map Prod.fst = some (.cmdsymCell0 1 2) ∧
    (decodeElem (.cmdsym (singleTable 0 74)) 0).map Prod.fst = some (.cmdsymCell1 1 2) ∧
    (decodeElem (.cmdsym (singleTable 0 138)) 0).map Prod.fst = some (.cmdsymCell2 1 2) ∧
    (decodeElem (.cmdsym (singleTable 0 202)) 0).map Prod.fst = some (.cmdsymCell3 1 2) ∧
    (decodeElem (.cmdsym (singleTable 0 266)) 0).map Prod.fst = some (.cmdsymCell4 1 2) ∧
    (decodeElem (.cmdsym (singleTable 0 330)) 0).map Prod.fst = some (.cmdsymCell5 1 2) ∧
    (decodeElem (.cmdsym (singleTable 0 394)) 0).map Prod.fst = some (.cmdsymCell6 1 2) ∧
    (decodeElem (.cmdsym (singleTable 0 458)) 0).map Prod.fst = some (.cmdsymCell7 1 2) ∧
    (decodeElem (.cmdsym (singleTable 0 522)) 0).map Prod.fst = some (.cmdsymCell8 1 2) ∧
    (decodeElem (.cmdsym (singleTable 0 586)) 0).map Prod.fst = some (.cmdsymCell9 1 2) ∧
    (decodeElem (.cmdsym (singleTable 0 650)) 0).map Prod.fst = some (.cmdsymCell10 1 2) := by
  decide

/-- R247: every insert length code, extra bits 1 where it has any. -/
theorem test_decode_inserts :
    (decodeElem (.ins 0) 1).map Prod.fst = some .ins0 ∧
    (decodeElem (.ins 1) 1).map Prod.fst = some .ins1 ∧
    (decodeElem (.ins 2) 1).map Prod.fst = some .ins2 ∧
    (decodeElem (.ins 3) 1).map Prod.fst = some .ins3 ∧
    (decodeElem (.ins 4) 1).map Prod.fst = some .ins4 ∧
    (decodeElem (.ins 5) 1).map Prod.fst = some .ins5 ∧
    (decodeElem (.ins 6) 1).map Prod.fst = some (.ins6 1) ∧
    (decodeElem (.ins 7) 1).map Prod.fst = some (.ins7 1) ∧
    (decodeElem (.ins 8) 1).map Prod.fst = some (.ins8 1) ∧
    (decodeElem (.ins 9) 1).map Prod.fst = some (.ins9 1) ∧
    (decodeElem (.ins 10) 1).map Prod.fst = some (.ins10 1) ∧
    (decodeElem (.ins 11) 1).map Prod.fst = some (.ins11 1) ∧
    (decodeElem (.ins 12) 1).map Prod.fst = some (.ins12 1) ∧
    (decodeElem (.ins 13) 1).map Prod.fst = some (.ins13 1) ∧
    (decodeElem (.ins 14) 1).map Prod.fst = some (.ins14 1) ∧
    (decodeElem (.ins 15) 1).map Prod.fst = some (.ins15 1) ∧
    (decodeElem (.ins 16) 1).map Prod.fst = some (.ins16 1) ∧
    (decodeElem (.ins 17) 1).map Prod.fst = some (.ins17 1) ∧
    (decodeElem (.ins 18) 1).map Prod.fst = some (.ins18 1) ∧
    (decodeElem (.ins 19) 1).map Prod.fst = some (.ins19 1) ∧
    (decodeElem (.ins 20) 1).map Prod.fst = some (.ins20 1) ∧
    (decodeElem (.ins 21) 1).map Prod.fst = some (.ins21 1) ∧
    (decodeElem (.ins 22) 1).map Prod.fst = some (.ins22 1) ∧
    (decodeElem (.ins 23) 1).map Prod.fst = some (.ins23 1) := by
  decide

/-- R248: every copy length code, extra bits 1 where it has any. -/
theorem test_decode_copies :
    (decodeElem (.cpy 0) 1).map Prod.fst = some .cpy0 ∧
    (decodeElem (.cpy 1) 1).map Prod.fst = some .cpy1 ∧
    (decodeElem (.cpy 2) 1).map Prod.fst = some .cpy2 ∧
    (decodeElem (.cpy 3) 1).map Prod.fst = some .cpy3 ∧
    (decodeElem (.cpy 4) 1).map Prod.fst = some .cpy4 ∧
    (decodeElem (.cpy 5) 1).map Prod.fst = some .cpy5 ∧
    (decodeElem (.cpy 6) 1).map Prod.fst = some .cpy6 ∧
    (decodeElem (.cpy 7) 1).map Prod.fst = some .cpy7 ∧
    (decodeElem (.cpy 8) 1).map Prod.fst = some (.cpy8 1) ∧
    (decodeElem (.cpy 9) 1).map Prod.fst = some (.cpy9 1) ∧
    (decodeElem (.cpy 10) 1).map Prod.fst = some (.cpy10 1) ∧
    (decodeElem (.cpy 11) 1).map Prod.fst = some (.cpy11 1) ∧
    (decodeElem (.cpy 12) 1).map Prod.fst = some (.cpy12 1) ∧
    (decodeElem (.cpy 13) 1).map Prod.fst = some (.cpy13 1) ∧
    (decodeElem (.cpy 14) 1).map Prod.fst = some (.cpy14 1) ∧
    (decodeElem (.cpy 15) 1).map Prod.fst = some (.cpy15 1) ∧
    (decodeElem (.cpy 16) 1).map Prod.fst = some (.cpy16 1) ∧
    (decodeElem (.cpy 17) 1).map Prod.fst = some (.cpy17 1) ∧
    (decodeElem (.cpy 18) 1).map Prod.fst = some (.cpy18 1) ∧
    (decodeElem (.cpy 19) 1).map Prod.fst = some (.cpy19 1) ∧
    (decodeElem (.cpy 20) 1).map Prod.fst = some (.cpy20 1) ∧
    (decodeElem (.cpy 21) 1).map Prod.fst = some (.cpy21 1) ∧
    (decodeElem (.cpy 22) 1).map Prod.fst = some (.cpy22 1) ∧
    (decodeElem (.cpy 23) 1).map Prod.fst = some (.cpy23 1) := by
  decide

/-- R107, R109, R265: literals, short, direct and long distance symbols, distance extra bits. -/
theorem test_decode_symbols :
    (decodeElem (.literal (singleTable 0 0x61)) 0).map Prod.fst = some (.literal 0x61) ∧
    (decodeElem (.distsym (singleTable 0 0) 22) 0).map Prod.fst = some .distsymShort0 ∧
    (decodeElem (.distsym (singleTable 0 1) 22) 0).map Prod.fst = some .distsymShort1 ∧
    (decodeElem (.distsym (singleTable 0 2) 22) 0).map Prod.fst = some .distsymShort2 ∧
    (decodeElem (.distsym (singleTable 0 3) 22) 0).map Prod.fst = some .distsymShort3 ∧
    (decodeElem (.distsym (singleTable 0 4) 22) 0).map Prod.fst = some .distsymShort4 ∧
    (decodeElem (.distsym (singleTable 0 5) 22) 0).map Prod.fst = some .distsymShort5 ∧
    (decodeElem (.distsym (singleTable 0 6) 22) 0).map Prod.fst = some .distsymShort6 ∧
    (decodeElem (.distsym (singleTable 0 7) 22) 0).map Prod.fst = some .distsymShort7 ∧
    (decodeElem (.distsym (singleTable 0 8) 22) 0).map Prod.fst = some .distsymShort8 ∧
    (decodeElem (.distsym (singleTable 0 9) 22) 0).map Prod.fst = some .distsymShort9 ∧
    (decodeElem (.distsym (singleTable 0 10) 22) 0).map Prod.fst = some .distsymShort10 ∧
    (decodeElem (.distsym (singleTable 0 11) 22) 0).map Prod.fst = some .distsymShort11 ∧
    (decodeElem (.distsym (singleTable 0 12) 22) 0).map Prod.fst = some .distsymShort12 ∧
    (decodeElem (.distsym (singleTable 0 13) 22) 0).map Prod.fst = some .distsymShort13 ∧
    (decodeElem (.distsym (singleTable 0 14) 22) 0).map Prod.fst = some .distsymShort14 ∧
    (decodeElem (.distsym (singleTable 0 15) 22) 0).map Prod.fst = some .distsymShort15 ∧
    (decodeElem (.distsym (singleTable 0 21) 22) 0).map Prod.fst = some (.distsymDirect 21) ∧
    (decodeElem (.distsym (singleTable 0 22) 22) 0).map Prod.fst = some (.distsymLong 22) ∧
    (decodeElem (.distExtra 2) 0b11).map Prod.fst = some (.distExtra 2 3) := by
  decide

/-- R113: operation numbers `unit.fn`, `8*unit + fn`; R26: the three commands. -/
theorem test_decode_operations :
    opOfNumber 0 = some .brFill ∧
    opOfNumber 1 = some (.brPeek 0) ∧
    opOfNumber 2 = some (.brDrop 0) ∧
    opOfNumber 3 = some (.brRead 0) ∧
    opOfNumber 4 = some .brAlign ∧
    opOfNumber 5 = some .brByte ∧
    opOfNumber 8 = some (.htBuild .len 0 0) ∧
    opOfNumber 16 = some (.hdSym .clc) ∧
    opOfNumber 17 = some (.hdReadcode 0) ∧
    opOfNumber 18 = some (.hdSimple 0) ∧
    opOfNumber 19 = some (.hdComplex 0 0) ∧
    opOfNumber 24 = some (.cmDecode 0) ∧
    opOfNumber 25 = some .cmImtf ∧
    opOfNumber 32 = some (.rbPut 0) ∧
    opOfNumber 33 = some (.rbGet 0) ∧
    opOfNumber 34 = some (.rbCopy 0 0) ∧
    opOfNumber 35 = some .rbFlush ∧
    opOfNumber 40 = some (.sdLookup 0 0) ∧
    opOfNumber 41 = some (.sdTransform [] 0) ∧
    opOfNumber 56 = some .opStart ∧
    opOfNumber 57 = some .opAbort ∧
    opOfNumber 58 = some .opSizeq ∧
    ctrlOfNumber 1 = some .ctrlStart ∧
    ctrlOfNumber 2 = some .ctrlAbort ∧
    ctrlOfNumber 3 = some .ctrlSizeq ∧
    ctrlOfNumber 4 = none := by
  decide

/-- R12: the codes of the sequencer states; 20 is reserved. -/
theorem test_decode_states :
    stateOfNumber 0 = some .cdIdle ∧
    stateOfNumber 1 = some .cdMbBegin ∧
    stateOfNumber 2 = some .cdMbHeader ∧
    stateOfNumber 3 = some .cdUncompressedCopy ∧
    stateOfNumber 4 = some .cdHdrBlocks ∧
    stateOfNumber 5 = some .cdHdrDistparams ∧
    stateOfNumber 6 = some .cdHdrCtxmodes ∧
    stateOfNumber 7 = some .cdHdrCmapL ∧
    stateOfNumber 8 = some .cdHdrCmapD ∧
    stateOfNumber 9 = some .cdHdrTrees ∧
    stateOfNumber 10 = some .cdCmdBegin ∧
    stateOfNumber 11 = some .cdCmdLiteral ∧
    stateOfNumber 12 = some .cdCmdDistance ∧
    stateOfNumber 13 = some .cdCmdCopyWindow ∧
    stateOfNumber 14 = some .cdCmdCopyDict ∧
    stateOfNumber 15 = some .cdCmdEnd ∧
    stateOfNumber 16 = some .cdMbDone ∧
    stateOfNumber 17 = some .cdFlush ∧
    stateOfNumber 18 = some .cdFinished ∧
    stateOfNumber 19 = some .cdError ∧
    stateOfNumber 20 = none := by
  decide

/-! ## Single steps, against the worked examples of the rules -/

/-- R134: `BR.IN = 31 00`, `BR.CUR = 4`, `BR.PEEK(4)` is 3. -/
theorem test_peek : after (exec (.brPeek 4) (withInput [0x31, 0x00] false 4)) (fun s => (s.res.val, s.br.cur)) = some (3, 4) := by
  decide

/-- R135: `BR.IN = 03`, end of input, `BR.CUR = 2`: dropping 6 bits gives 8, dropping 7 raises `truncated-input(0)`. -/
theorem test_drop :
    after (exec (.brDrop 6) (withInput [0x03] true 2)) (fun s => s.br.cur) = some 8 ∧
    after (exec (.brDrop 7) (withInput [0x03] true 2)) (fun s => (s.br.cur, s.err.kind, s.err.sub, s.st)) =
      some (2, .truncatedInput, 0, .error) := by
  decide

/-- R136: `BR.IN = 31`, reads of 1, 1, 2 and 4 bits give 1, 0, 0, 3. -/
theorem test_read :
    after (exec (.brRead 1) (withInput [0x31] false 0)) (fun s => (s.res.val, s.br.cur)) = some (1, 1) ∧
    after (exec (.brRead 1) (withInput [0x31] false 1)) (fun s => (s.res.val, s.br.cur)) = some (0, 2) ∧
    after (exec (.brRead 2) (withInput [0x31] false 2)) (fun s => (s.res.val, s.br.cur)) = some (0, 4) ∧
    after (exec (.brRead 4) (withInput [0x31] false 4)) (fun s => (s.res.val, s.br.cur)) = some (3, 8) := by
  decide

/-- R137, R138: `BR.CUR = 20` aligns to 24; at 24 of `00 00 08 41` the byte is `41` and the cursor 32. -/
theorem test_align_byte :
    after (exec .brAlign (withInput [0, 0, 8, 0x41] false 20)) (fun s => s.br.cur) = some 24 ∧
    after (exec .brByte (withInput [0, 0, 8, 0x41] false 24)) (fun s => (s.res.val, s.br.cur)) = some (0x41, 32) := by
  decide

/-- R132: stream `03`, end of input: `BR.VAL = 3`, `BR.BITPOS = 0`, `BR.NVALID = 8`. -/
theorem test_fill :
    after (exec .brFill (withInput [0x03] true 0)) (fun s => (s.br.val, s.br.bitpos, s.br.nvalid)) = some (3, 0, 8) := by
  decide

/-- R14, R132: with two bytes delivered the register holds them at its top, and `BR.CUR = 8*(BR.BYTEPOS - 4) + BR.BITPOS`; the next two
bytes complete the first fill. -/
theorem test_fill_short :
    let b := (withInput [0x31, 0x02] false 0).br.fill
    let c := ({ b with input := b.input ++ [0x03, 0x04] } : BitReader).fill
    (b.val, b.bytepos, b.bitpos, b.nvalid) = (0x02310000, 2, 16, 16) ∧ (c.val, c.bytepos, c.bitpos, c.nvalid) = (0x04030231, 4, 0, 32) := by
  decide

/-- R161: the table of lengths 2, 1, 3, 3 with a root of two bits. -/
theorem test_build :
    buildTable [2, 1, 3, 3] 2 = .ok ⟨2, [.terminal 1 1, .terminal 2 0, .terminal 1 1, .redirect 1 4, .terminal 1 2, .terminal 1 3]⟩ := by
  decide

/-- The example table of R161. -/
def exampleTable : Table := ⟨2, [.terminal 1 1, .terminal 2 0, .terminal 1 1, .redirect 1 4, .terminal 1 2, .terminal 1 3]⟩

/-- R166: with the table of R161 the bits 1, 1, 0 are symbol 2, 3 bits consumed. -/
theorem test_symbol :
    after (exec (.hdSym .cm) { withInput [0b011] false 0 with ht := storeTable TableRam.none .cm exampleTable })
      (fun s => (s.res.val, s.br.cur)) = some (2, 3) := by
  decide

/-- R167, D5: with one bit of input, end of input and the same table, the symbol whose codeword is `110` is cut and the cursor stays
at its first bit; a single-symbol table does not fault after a failure of the source (R166). -/
theorem test_symbol_cut :
    after (exec (.hdSym .cm) { withInput [0b11000000] true 6 with ht := storeTable TableRam.none .cm exampleTable })
      (fun s => (s.err.kind, s.br.cur)) = some (.truncatedInput, 6) ∧
    after (exec (.hdSym .cm) { State.reset with
        br := { BitReader.reset with srcErr := true }, ht := storeTable TableRam.none .cm (singleTable 2 7) })
      (fun s => (s.err.kind, s.res.val, s.br.cur)) = some (.none, 7, 0) := by
  decide

/-- R189: `m = [1, 1, 0, 2]` gives `[1, 0, 0, 2]`. -/
theorem test_imtf :
    after (exec .cmImtf { State.reset with cm := { mapRamReset with m := [1, 1, 0, 2] } }) (fun s => s.cm.m) = some [1, 0, 0, 2] := by
  decide

/-- R191 (d): `63 + 32 > 64`: `malformed-huffman(8)`. -/
theorem test_cmrun_past_end :
    after (exec (.cmrun 5 0) { State.reset with cm := { mapRamReset with n := 64, i := 63 } }) (fun s => (s.err.kind, s.err.sub)) =
      some (.malformedHuffman, 8) := by
  decide

/-- R199: `RB.POS = 1023`, put of `41`: cell 1023, position 1024, and the flush of the ring comes next. -/
theorem test_put_wrap :
    after (exec (.rbPut 0x41) (withWindow 1023 [])) (fun s => (s.rb.mem, s.rb.pos, s.todo)) =
      some ([(1023, 0x41)], 1024, [.op .rbFlush]) := by
  decide

/-- R200: `SIZE = 1024`, `RB.POS = 1026`, distance 4 reads cell 1022. -/
theorem test_get : after (exec (.rbGet 4) (withWindow 1026 [(1022, 0x5A)])) (fun s => s.res.val) = some 0x5A := by
  decide

/-- R201: `OUT` ends in `61 62`: a copy of distance 2 puts `61` first and goes on with one byte less. -/
theorem test_copy :
    after (exec (.rbCopy 2 5) (withWindow 2 [(0, 0x61), (1, 0x62)])) (fun s => (s.rb.mem, s.todo)) =
      some ([(0, 0x61), (1, 0x62), (2, 0x61)], [.op (.rbCopy 2 4)]) := by
  decide

/-- R204: `SIZE = 1024`, `RB.POS = 1030`: the final flush pushes 6 bytes. -/
theorem test_final_flush :
    after (exec .rbFlush { withWindow 1030 [(0, 1), (1, 2), (2, 3), (3, 4), (4, 5), (5, 6)] with st := .flush })
      (fun s => s.snk.offer) = some (some [1, 2, 3, 4, 5, 6]) := by
  decide

/-- R219: `len = 4`, `word_id = 3077`: index 5, transform 3. -/
theorem test_word_id : dictIndex 4 3077 = 5 ∧ dictTransform 4 3077 = 3 := by
  decide

/-- R222: rows 3, 9, 44, 5, 49, 73 and 54 on the word `uvwx`. -/
theorem test_transforms :
    after (exec (.sdTransform [0x75, 0x76, 0x77, 0x78] 3) State.reset) (fun s => s.res.bytes) = some [0x76, 0x77, 0x78] ∧
    after (exec (.sdTransform [0x75, 0x76, 0x77, 0x78] 9) State.reset) (fun s => s.res.bytes) = some [0x55, 0x76, 0x77, 0x78] ∧
    after (exec (.sdTransform [0x75, 0x76, 0x77, 0x78] 44) State.reset) (fun s => s.res.bytes) = some [0x55, 0x56, 0x57, 0x58] ∧
    after (exec (.sdTransform [0x75, 0x76, 0x77, 0x78] 5) State.reset) (fun s => s.res.bytes) =
      some [0x75, 0x76, 0x77, 0x78, 0x20, 0x74, 0x68, 0x65, 0x20] ∧
    after (exec (.sdTransform [0x75, 0x76, 0x77, 0x78] 49) State.reset) (fun s => s.res.bytes) =
      some [0x75, 0x76, 0x77, 0x69, 0x6E, 0x67, 0x20] ∧
    after (exec (.sdTransform [0x75, 0x76, 0x77, 0x78] 54) State.reset) (fun s => s.res.bytes) = some [] := by
  decide

/-- R223: the two worked characters. -/
theorem test_upper :
    applyKind .uppercaseAll [0xC3, 0xA9, 0x61, 0xE2, 0x82, 0xAC, 0x62] = [0xC3, 0x89, 0x41, 0xE2, 0x82, 0xA9, 0x42] ∧
    applyKind .uppercaseFirst [0xE2, 0x82] = [0xE2, 0x82] := by
  decide

/-- R244: `NPOSTFIX = 1`, `NDIRECT_HI = 3`: `NUMDIRECT = 22`, `NDIST = 118`. -/
theorem test_distance_parameters :
    after (exec (.ndirectHi 3) { State.reset with mb := { MetaBlock.reset with npostfix := 1 } })
      (fun s => (s.mb.numdirect, s.mb.ndist)) = some (22, 118) := by
  decide

/-- R250: code 4 with extra bits `0b101` is 22. -/
theorem test_block_length : after (exec (.blen4 5) State.reset) (fun s => s.blk.lit.blen) = some 22 := by
  decide

/-- The literal category with three block types, the one before, and the current one. -/
def threeTypes (prev cur : Nat) : State :=
  { State.reset with blk := { blkReset with lit := { nbt := 3, cur := cur, prev2 := prev, blen := 0 } } }

/-- R252: the chain of the rule's example, as pairs (`BT_PREV2`, `BT_CUR`). -/
theorem test_block_types :
    after (exec .btsymNext (threeTypes 1 0)) (fun s => (s.blk.lit.prev2, s.blk.lit.cur)) = some (0, 1) ∧
    after (exec .btsymNext (threeTypes 0 1)) (fun s => (s.blk.lit.prev2, s.blk.lit.cur)) = some (1, 2) ∧
    after (exec .btsymNext (threeTypes 1 2)) (fun s => (s.blk.lit.prev2, s.blk.lit.cur)) = some (2, 0) ∧
    after (exec .btsymPrev (threeTypes 2 0)) (fun s => (s.blk.lit.prev2, s.blk.lit.cur)) = some (0, 2) ∧
    after (exec (.btsymExplicit 3) (threeTypes 0 2)) (fun s => (s.blk.lit.prev2, s.blk.lit.cur)) = some (2, 1) := by
  decide

/-- R257: symbol 137 is cell 2 with codes 1 and 1: `CMD.INS = 1`, `CMD.CPY = 3`, the distance explicit. -/
theorem test_command :
    cmdsymInstr 137 = some (.cmdsymCell2 1 1) ∧
    after (exec (.cmdsymCell2 1 1) State.reset) (fun s => (s.visit.insCode, s.visit.cpyCode, s.visit.implicit)) = some (1, 1, false) ∧
    after (exec .ins1 State.reset) (fun s => s.cmd.ins) = some 1 ∧
    after (exec .cpy1 State.reset) (fun s => s.cmd.cpy) = some 3 := by
  decide

/-- R262: mode 0, last byte `61`: context 33. -/
theorem test_literal_context : literalContext Config.Params.default 0 0x61 0 = 33 := by
  decide

/-- R266: at the start of a session codes 0, 1, 2, 3, 4, 5, 8, 9, 10, 15 are 4, 11, 15, 16, 3, 5, 1, 7, 10, 14. -/
theorem test_short_codes :
    [0, 1, 2, 3, 4, 5, 8, 9, 10, 15].map State.reset.dr.short = [4, 11, 15, 16, 3, 5, 1, 7, 10, 14] := by
  decide

/-- R266: with last distance 1, code 4 gives 0: `invalid-backward-reference(1)`. -/
theorem test_short_code_zero :
    after (exec .distsymShort4 { State.reset with dr := { d0 := 16, d1 := 15, d2 := 11, d3 := 1, idx := 0 } })
      (fun s => (s.err.kind, s.err.sub, s.st)) = some (.invalidBackwardReference, 1, .error) := by
  decide

/-- R265: symbol 16 gives codes 16 and 17, symbol 17 distances 3 and 4, symbol 18 distances 5 and 8 at its ends. -/
theorem test_long_codes :
    longCode State.reset 16 0 = 16 ∧ longCode State.reset 16 1 = 17 ∧ longCode State.reset 17 0 - 15 = 3 ∧
    longCode State.reset 17 1 - 15 = 4 ∧ longBits State.reset 18 = 2 ∧ longCode State.reset 18 0 - 15 = 5 ∧
    longCode State.reset 18 3 - 15 = 8 := by
  decide

/-- R267: `RB.POS = 4`: distance 4 is a window copy, distance 5 the dictionary reference 0. -/
theorem test_window_or_dictionary :
    after (runAct .classify { withWindow 4 [] with
      cmd := { Command.reset with cpy := 2, dist := 4 }, mb := { MetaBlock.reset with rem := 2 } }) (fun s => s.st) =
      some .cmdCopyWindow ∧
    after (runAct .classify { withWindow 4 [] with cmd := { Command.reset with cpy := 4, dist := 5 } }) (fun s => s.todo) =
      some [.op (.sdLookup 4 0), .act .dictCheck] := by
  decide

/-- R269: at the start of a session a window copy of distance 1 leaves `DR = [1, 15, 11, 4]`; codes 0 to 3 are then 1, 4, 11, 15. -/
theorem test_distance_push :
    State.reset.dr.push 1 = { d0 := 1, d1 := 15, d2 := 11, d3 := 4, idx := 1 } ∧
    [0, 1, 2, 3].map (State.reset.dr.push 1).short = [1, 4, 11, 15] := by
  decide

/-- R280: `03` is an empty final meta-block: the query returns 0. -/
theorem test_size_query :
    after (exec (.isempty true) { State.reset with st := .mbHeader, q := true }) (fun s => (s.st, s.statPos)) = some (.finished, 0) := by
  decide

/-- R235, R236, R280: `START` with 22 window bits, `ABORT`, `SIZEQ`, and the writes to `CTRL`. -/
theorem test_session :
    after (exec .opStart { State.reset with wbits := 22 }) (fun s => (s.st, s.rb.winBits)) = some (.mbBegin, 22) ∧
    after (exec .ctrlStart { State.reset with wbits := 9 }) (fun s => s.st) = some .idle ∧
    after (exec .opAbort { State.reset with st := .cmdEnd }) (fun s => s.st) = some .idle ∧
    after (exec .ctrlSizeq State.reset) (fun s => (s.st, s.q)) = some (.mbHeader, true) := by
  decide

/-- R316: `00 00 08 41` at its end: the header of the second meta-block finds no bit, `truncated-input(0)`, cursor 32. -/
theorem test_truncated :
    after (step (inSession (withInput [0, 0, 8, 0x41] true 32) .mbHeader [.elem .islast]))
      (fun s => (s.st, s.err.kind, s.err.sub, s.br.cur)) = some (.error, .truncatedInput, 0, 32) := by
  decide

/-- R302, R316: a sink that answers `Short(0)` to a chunk: `sink-rejected-output(0)`. -/
theorem test_sink_short :
    after (step { State.reset with
      st := .flush, snk := { offer := some [0x41], out := [] }, env := { host := [], src := [], snk := [.short 0], turns := [.snk] } })
      (fun s => (s.st, s.err.kind, s.err.sub, s.snk.out)) = some (.error, .sinkRejectedOutput, 0, []) := by
  decide

/-! ## Witnesses: concrete values that meet the hypotheses of the statements, one for each clause -/

/-- The table of one symbol is laid out as the builder lays tables out. -/
theorem singleTable_replicated (r sym : Nat) : (singleTable r sym).Replicated := by
  have e : ∀ (k : Nat) (en : Entry), (List.replicate (2 ^ r) (Entry.terminal 0 sym))[k]? = some en → en = Entry.terminal 0 sym := by
    intro k en h
    exact (List.mem_replicate.1 (List.mem_of_getElem? h)).2
  constructor
  · intro k _ bits s h
    have h' := e k _ h
    injection h' with h1 h2
    subst h1 h2
    refine ⟨Nat.zero_le _, fun j hj _ => ?_⟩
    exact List.getElem?_replicate_of_lt hj
  · intro k _ sb base h
    exact absurd (e k _ h) (by simp)

theorem witness_StepRunsDecodedElement :
    let s : State := inSession (withInput [1] true 0) .mbHeader [.elem .islast]
    let b := { (withInput [1] true 0).br with cur := 1, val := 1, bytepos := 4, bitpos := 1, nvalid := 7 }
    s.snk.offer = none ∧ s.todo = .elem .islast :: [] ∧ s.elemFmt .islast = some .islast ∧
      decodeElem .islast (s.br.peek fetchBits) = some (.islast true, [⟨1, 1⟩]) ∧
      BitReader.takeAll s.par s.br [⟨1, 1⟩] = .ok b ∧ s.env.turns = .dec :: [] := by
  decide

theorem witness_StepRunsDecodedElement_default :
    let s : State := { inSession (withInput [1] true 0) .mbHeader [.elem .islast] with env := State.reset.env }
    s.snk.offer = none ∧ s.todo = .elem .islast :: [] ∧ s.env.turns = [] ∧ s.env.host = [] := by
  decide

/-- The last two rows but one of the table of R316: the fourth nibble of `00 00` is not there. -/
theorem witness_StepRunsDecodedElement_fail :
    let s : State := inSession (withInput [0, 0] true 15) .mbHeader [.elem .mlenNibble]
    let t : State := { s with br := { s.br with eos := false, srcErr := true } }
    s.snk.offer = none ∧ s.todo = .elem .mlenNibble :: [] ∧ s.elemFmt .mlenNibble = some .mlenNibble ∧
      decodeElem .mlenNibble (s.br.peek fetchBits) = some (.mlenNibble 0, [] ++ ⟨4, 4⟩ :: []) ∧
      BitReader.takeAll s.par s.br [] = .ok s.br ∧ 4 ≠ 0 ∧ s.env.turns = .dec :: [] ∧
      (s.br.srcErr = false ∧ s.br.eos = true ∧ s.br.avail < s.br.cur + fieldBits [] + 4 ∧
        BitReader.takeAll s.par s.br [⟨4, 4⟩] = .fail .truncatedInput s.br.fill) ∧
      t.snk.offer = none ∧ t.todo = .elem .mlenNibble :: [] ∧ t.elemFmt .mlenNibble = some .mlenNibble ∧
      decodeElem .mlenNibble (t.br.peek fetchBits) = some (.mlenNibble 0, [] ++ ⟨4, 4⟩ :: []) ∧
      BitReader.takeAll t.par t.br [] = .ok t.br ∧ t.br.srcErr = true ∧ t.br.avail < t.br.cur + fieldBits [] + 4 ∧
      BitReader.takeAll t.par t.br [⟨4, 4⟩] = .fail .sourceFailed t.br.fill := by
  decide

/-- A `VARLEN8` whose first field is there and whose second is not. -/
theorem witness_StepRunsDecodedElement_fail_later :
    let s : State := inSession (withInput [0x80] true 7) .hdrBlocks [.elem .varlen8]
    s.elemFmt .varlen8 = some .varlen8 ∧
      decodeElem .varlen8 (s.br.peek fetchBits) = some (.varlen8One, [⟨1, 1⟩] ++ ⟨3, 3⟩ :: []) ∧
      BitReader.takeAll s.par s.br [⟨1, 1⟩] = .ok (s.br.fill.advance 1) ∧ s.br.srcErr = false ∧ s.br.eos = true ∧
      s.br.avail < s.br.cur + fieldBits [⟨1, 1⟩] + 3 := by
  decide

/-- R316: `00 00`, then `End` or `Error`: `ERROR` with the kind of each and `BR.CUR` = 15. -/
theorem test_r316_fourth_nibble :
    let s : State := inSession (withInput [0, 0] true 15) .mbHeader [.elem .mlenNibble]
    let t : State := { s with br := { s.br with eos := false, srcErr := true } }
    let cut (k : ErrKind) (r : Result) : Bool :=
      match r with
      | .next u => u.st == .error && u.err == { kind := k, sub := 0 } && u.br.cur == 15
      | _ => false
    cut .truncatedInput (step s) = true ∧ cut .sourceFailed (step t) = true := by
  decide

theorem witness_StepRunsAgenda :
    let s : State := inSession State.reset .flush [.op .rbFlush]
    let t : State := inSession State.reset .flush [.act .toFinished]
    let u : State := inSession State.reset .flush []
    s.snk.offer = none ∧ s.env.turns = .dec :: [] ∧ s.todo = .op .rbFlush :: [] ∧
      State.opHeld { s with env := { s.env with turns := [] } } .rbFlush = false ∧ t.todo = .act .toFinished :: [] ∧ u.todo = [] := by
  decide

theorem witness_DecodeEncodeAgree :
    (∀ t, ElemFmt.table? (.literal (singleTable 8 0x61)) = some t → t.Replicated) ∧
      encode (.literal (singleTable 8 0x61)) (.literal 0x61) = some (0, 0) := by
  refine ⟨?_, rfl⟩
  intro t h
  injection h with h
  exact h ▸ singleTable_replicated 8 0x61

theorem witness_DecodeEncodeAgree_field :
    (∀ t, ElemFmt.table? .mlenNibble = some t → t.Replicated) ∧ encode .mlenNibble (.mlenNibble 15) = some (15, 4) := by
  refine ⟨?_, rfl⟩
  intro t h
  cases h

theorem witness_EveryElementEncodes :
    (Instr.mlenNibble 15).WellFormed = true ∧ opNumber (.mlenNibble 15) = none ∧ stateNumber (.mlenNibble 15) = none ∧
      ∀ v, ctrlOfNumber v ≠ some (.mlenNibble 15) := by
  refine ⟨rfl, rfl, rfl, fun v => ?_⟩
  unfold ctrlOfNumber
  split <;> simp

theorem witness_Varlen8Spelling :
    0 % 2 = 0 ∧ 1 % 16 = 1 ∧ (0b11 % 2 = 1 ∧ 0b11 / 2 % 8 ≠ 0) ∧ 255 ≤ 255 ∧
      decodeElem .varlen8 0b0 = some (.varlen8Zero, [⟨1, 1⟩]) ∧ decodeElem .varlen8 0b10 = some (.varlen8Zero, [⟨1, 1⟩]) ∧
      varlen8Value .varlen8Zero = varlen8Value .varlen8Zero := by
  decide

theorem witness_PeekIsStreamBits : 0 < 1 ∧ 1 ≤ 1 := by
  decide

theorem witness_BitReaderReads :
    0 = 0 ∧
    ((withInput [3] false 0).br.cur + 8 ≤ (withInput [3] false 0).br.avail ∧
      (withInput [3] false 0).br.windowShort (withInput [3] false 0).par = false) := by
  decide

theorem witness_BitReaderPastEnd :
    let s := withInput [3] true 2
    let t : State := { withInput [3] false 2 with br := { (withInput [3] false 2).br with srcErr := true } }
    let u := withInput [3] false 2
    7 ≠ 0 ∧ (s.br.avail < s.br.cur + 7 ∧ s.br.srcErr = false ∧ s.br.eos = true) ∧
      (t.br.avail < t.br.cur + 7 ∧ t.br.srcErr = true) ∧
      (u.br.avail < u.br.cur + 7 ∧ u.br.srcErr = false ∧ u.br.eos = false) := by
  decide

theorem witness_AlignAndByte :
    let s := withInput [0, 0, 8, 0x41] false 24
    s.br.windowShort s.par = false ∧ s.br.cur ≤ s.br.avail ∧ s.br.cur % 8 = 0 ∧ s.br.input[s.br.cur / 8]? = some 0x41 := by
  decide

theorem witness_AlignAndByte_pastEnd :
    let s := withInput [0, 0, 8] true 24
    let t : State := { withInput [0, 0, 8] false 24 with br := { (withInput [0, 0, 8] false 24).br with srcErr := true } }
    let u := withInput [0, 0, 8] false 24
    let v := withInput [0] true 9
    8 = 8 ∧ (s.br.cur % 8 = 0 ∧ s.br.avail < s.br.cur + 8 ∧ s.br.srcErr = false ∧ s.br.eos = true) ∧
      (t.br.avail < t.br.cur + 8 ∧ t.br.srcErr = true) ∧
      (u.br.avail < u.br.cur + 8 ∧ u.br.srcErr = false ∧ u.br.eos = false) ∧
      (0 < 7 ∧ 7 < 8 ∧ (v.br.cur + 7) % 8 = 0 ∧ v.br.avail < v.br.cur + 7) := by
  decide

theorem witness_FillKeepsCursor :
    let s := withInput [3] true 0
    let t := withInput [1, 2, 3, 4, 5] false 8
    let u := withInput [1, 2, 3, 4] false 8
    let v : State := { u with br := { u.br with srcErr := true } }
    (s.br.bytepos = 0 ∧ s.br.bitpos = 32 ∧ s.br.eos = true) ∧ (s.br.RegisterOk ∧ s.br.eos = true) ∧
      (t.br.RegisterOk ∧ t.br.cur / 8 + 4 ≤ t.br.input.length) ∧
      (u.br.RegisterOk ∧ u.br.eos = false ∧ u.br.input.length < u.br.cur / 8 + 4 ∧ u.br.srcErr = false) ∧
      (v.br.RegisterOk ∧ v.br.eos = false ∧ v.br.input.length < v.br.cur / 8 + 4 ∧ v.br.srcErr = true) := by
  simp only [BitReader.RegisterOk]
  decide

theorem witness_HeldStepChangesNothing :
    let s : State := { inSession State.reset .flush [] with snk := { offer := some [1], out := [] } }
    let t : State := inSession State.reset .mbHeader [.elem .islast]
    let u : State := inSession State.reset .mbHeader [.op (.brRead 1)]
    (s.env.turns = .dec :: [] ∧ State.heldOnOutput s = true) ∧
      (t.env.turns = .dec :: [] ∧ State.heldOnInput { t with env := { t.env with turns := [] } } = true) ∧
      (u.env.turns = .dec :: [] ∧ State.heldOnInput { u with env := { u.env with turns := [] } } = true) := by
  decide

/-- A state with these code lengths. -/
def withLens (l : List Nat) : State := { State.reset with hd := { codeRegsReset with len := l } }

theorem witness_BuildTableValidity :
    (∀ l ∈ (withLens [0, 0]).lensOf .len 2, l = 0) ∧ usedSyms ((withLens [0, 3]).lensOf .len 2) = [(1, 3)] ∧
      (2 ≤ (usedSyms ((withLens [1, 2]).lensOf .len 2)).length ∧
        ((((withLens [1, 2]).lensOf .len 2).filter (· ≠ 0)).map fun l => 2 ^ (15 - l)).sum ≠ 32768) ∧
      (2 ≤ (usedSyms ((withLens [1, 1]).lensOf .len 2)).length ∧
        ((((withLens [1, 1]).lensOf .len 2).filter (· ≠ 0)).map fun l => 2 ^ (15 - l)).sum = 32768) := by
  decide

theorem witness_CanonicalCodeDecodes :
    2 ≤ 15 ∧ (∀ l ∈ [2, 1, 3, 3], l ≤ 15) ∧ 2 ≤ (usedSyms [2, 1, 3, 3]).length ∧
      buildTable [2, 1, 3, 3] 2 = .ok exampleTable ∧ ⟨2, 3, 0b110⟩ ∈ canonicalCode [2, 1, 3, 3] := by
  decide

/-- The same at the boundaries: a root of eight bits and codewords of 15, 9 and 8 bits. -/
theorem witness_CanonicalCodeDecodes_long :
    let lens := [1, 2, 3, 4, 5, 6, 7, 8, 9, 10, 11, 12, 13, 14, 15, 15]
    8 ≤ 15 ∧ (∀ l ∈ lens, l ≤ 15) ∧ 2 ≤ (usedSyms lens).length ∧ codeSpace lens = 2 ^ Config.maxCodeLen ∧
      ⟨15, 15, 0x7FFF⟩ ∈ canonicalCode lens ∧ ⟨8, 9, 0x1FE⟩ ∈ canonicalCode lens ∧ ⟨7, 8, 0xFE⟩ ∈ canonicalCode lens := by
  decide

theorem witness_CanonicalCodeComplete :
    (∀ l ∈ [0, 15, 1], l ≤ 15) ∧ (canonicalCode [0, 15, 1])[0]? = some ⟨2, 1, 0⟩ ∧
      (canonicalCode [0, 15, 1])[0 + 1]? = some ⟨1, 15, 0x4000⟩ ∧ ⟨1, 15, 0x4000⟩ ∈ canonicalCode [0, 15, 1] := by
  decide

theorem witness_CanonicalCodeComplete_last :
    (∀ l ∈ [2, 1, 0, 2], l ≤ 15) ∧ (([2, 1, 0, 2].filter (· ≠ 0)).map fun l => 2 ^ (15 - l)).sum = 32768 ∧
      (canonicalCode [2, 1, 0, 2]).getLast? = some ⟨3, 2, 3⟩ := by
  decide

theorem witness_SymbolRead :
    let s : State := { withInput [0b011] false 0 with ht := storeTable TableRam.none .cm exampleTable }
    lookupTable s.ht .cm = some exampleTable ∧ lookupSym exampleTable (s.br.peek 64) = some (2, [⟨3, 3⟩]) ∧
      BitReader.takeAll s.par s.br [⟨3, 3⟩] =
        .ok { s.br with cur := 3, val := 0x03000000, bytepos := 1, bitpos := 27, nvalid := 5 } := by
  decide

theorem witness_SymbolRead_single :
    let s : State := { State.reset with
      br := { BitReader.reset with srcErr := true }, ht := storeTable TableRam.none .cm (singleTable 2 7) }
    lookupTable s.ht .cm = some (singleTable 2 7) ∧ s.br.need s.par 2 ≠ .hold := by
  decide

theorem witness_SymbolRead_cut :
    let s : State := { withInput [0b11000000] true 6 with ht := storeTable TableRam.none .cm exampleTable }
    lookupTable s.ht .cm = some exampleTable ∧ lookupSym exampleTable (s.br.peek 64) = some (2, [⟨3, 3⟩]) ∧ s.br.eos = true ∧
      s.br.srcErr = false ∧ 3 ≠ 0 ∧ s.br.avail < s.br.cur + 3 := by
  decide

theorem witness_SymbolRead_notThere :
    let s : State := { withInput [0b11000000] false 6 with ht := storeTable TableRam.none .cm exampleTable }
    let t : State := { s with br := { s.br with srcErr := true } }
    (lookupTable s.ht .cm = some exampleTable ∧ lookupSym exampleTable (s.br.peek 64) = some (2, [⟨3, 3⟩]) ∧
      s.br.eos = false ∧ s.br.srcErr = false ∧ 3 ≠ 0 ∧ s.br.avail < s.br.cur + 3) ∧
      lookupTable t.ht .cm = some exampleTable ∧ lookupSym exampleTable (t.br.peek 64) = some (2, [⟨3, 3⟩]) ∧
      t.br.srcErr = true ∧ t.br.avail < t.br.cur + 3 := by
  decide

theorem witness_SymbolRead_store :
    let s : State := { State.reset with ht := { TableRam.none with out := some exampleTable } }
    s.ht.out = some exampleTable ∧ 0 ≤ s.ht.tgL.length ∧ 0 ≤ s.ht.tgI.length ∧ 0 ≤ s.ht.tgD.length := by
  decide

theorem witness_ReadCodeSequence : 703 < 704 ∧ 703 < State.reset.hd.len.length := by
  refine ⟨by decide, ?_⟩
  rw [show State.reset.hd.len = List.replicate 704 0 from rfl, List.length_replicate]
  decide

/-- A state in a simple code of these symbols over an alphabet of four. -/
def withSyms (l : List Nat) : State := { State.reset with hd := { codeRegsReset with a := 4, syms := l } }

theorem witness_SimpleCodeElements :
    (∀ v ∈ (withSyms [0, 1, 2, 3]).hd.syms, v < (withSyms [0, 1, 2, 3]).hd.a) ∧ (withSyms [0, 1, 2, 3]).hd.syms.Nodup ∧
      (withSyms [0, 1, 2, 3]).hd.syms = [0, 1, 2, 3] ∧
      (∀ v ∈ (withSyms [3]).hd.syms, v < (withSyms [3]).hd.a) ∧ (withSyms [3]).hd.syms = [3] ∧
      (∀ v ∈ (withSyms [3, 0]).hd.syms, v < (withSyms [3, 0]).hd.a) ∧ (withSyms [3, 0]).hd.syms = [3, 0] ∧
      (∀ v ∈ (withSyms [3, 0, 1]).hd.syms, v < (withSyms [3, 0, 1]).hd.a) ∧ (withSyms [3, 0, 1]).hd.syms = [3, 0, 1] ∧
      2 ≤ 704 ∧ 704 ≤ 704 ∧ 2 ^ (10 - 1) ≤ 704 - 1 ∧ 704 - 1 < 2 ^ 10 := by
  decide

theorem witness_SimpleCodeChecks :
    (∃ v ∈ (withSyms [4]).hd.syms, (withSyms [4]).hd.a ≤ v) ∧
      ((∀ v ∈ (withSyms [3, 3]).hd.syms, v < (withSyms [3, 3]).hd.a) ∧ ¬ (withSyms [3, 3]).hd.syms.Nodup) ∧
      ((∀ v ∈ (withSyms [3, 0]).hd.syms, v < (withSyms [3, 0]).hd.a) ∧ (withSyms [3, 0]).hd.syms.Nodup) := by
  decide

/-- A state in a code-length code: place, space left, entries seen. -/
def withPhase (i : Nat) (space : Int) (n : Nat) : State :=
  { State.reset with hd := { codeRegsReset with i := i, space := space, ncodes := n } }

theorem witness_CodeLengthCodePhase :
    (Instr.clcl5, 5) ∈ ([(Instr.clcl0, 0), (.clcl1, 1), (.clcl2, 2), (.clcl3, 3), (.clcl4, 4), (.clcl5, 5)] : List _) ∧
    ((withPhase 17 1 2).hd.i < 18 ∧ 0 < (withPhase 17 1 2).hd.space) ∧
    (18 ≤ (withPhase 18 16 1).hd.i ∧ (withPhase 18 16 1).hd.ncodes = 1) ∧
    ((withPhase 5 0 2).hd.space ≤ 0 ∧ (withPhase 5 0 2).hd.space = 0) ∧
    (18 ≤ (withPhase 18 8 2).hd.i ∧ (withPhase 18 8 2).hd.ncodes ≠ 1 ∧ (withPhase 18 8 2).hd.space ≠ 0) := by
  decide

theorem witness_CodeLengthSymbols : (Instr.clsymLen15, 15) ∈ ([(Instr.clsymLen0, 0), (.clsymLen1, 1), (.clsymLen2, 2), (.clsymLen3, 3), (.clsymLen4, 4), (.clsymLen5, 5), (.clsymLen6, 6), (.clsymLen7, 7),
      (.clsymLen8, 8), (.clsymLen9, 9), (.clsymLen10, 10), (.clsymLen11, 11), (.clsymLen12, 12), (.clsymLen13, 13), (.clsymLen14, 14), (.clsymLen15, 15)] : List _) := by
  decide

theorem witness_CodeLengthRepeats :
    let x := 3
    let s : State := { State.reset with hd := { codeRegsReset with a := 6, symbol := 0 } }
    let t : State := { State.reset with hd := { codeRegsReset with a := 6, symbol := 1 } }
    (Instr.clrepExtra16 x, 2) ∈ ([(Instr.clrepExtra16 x, 2), (.clrepExtra17 x, 3)] : List _) ∧ (6 = (if 0 < s.hd.rep then (s.hd.rep - 2) * 2 ^ 2 else 0) + x + 3) ∧
      s.hd.symbol + (6 - s.hd.rep) ≤ s.hd.a ∧ t.hd.a < t.hd.symbol + (6 - t.hd.rep) := by
  decide

theorem witness_CodeLengthPhaseEnd :
    let s : State := { State.reset with hd := { codeRegsReset with a := 2, symbol := 1, space := 1 } }
    let t : State := { State.reset with hd := { codeRegsReset with a := 2, symbol := 2, space := 0 } }
    let u : State := { State.reset with hd := { codeRegsReset with a := 2, symbol := 2, space := 1 } }
    (s.hd.symbol < s.hd.a ∧ 0 < s.hd.space) ∧ (t.hd.a ≤ t.hd.symbol ∧ t.hd.space = 0) ∧
      (u.hd.a ≤ u.hd.symbol ∧ u.hd.space ≠ 0) := by
  decide

theorem witness_ContextMapEntries :
    let s : State := { State.reset with cm := { mapRamReset with n := 64, i := 63, m := List.replicate 64 0 } }
    let t : State := { State.reset with cm := { mapRamReset with n := 64, i := 64, m := List.replicate 64 0 } }
    let u : State := { State.reset with cm := { mapRamReset with n := 64, i := 32, m := List.replicate 64 0 } }
    s.cm.i < s.cm.m.length ∧ u.cm.i + (2 ^ 5 + 0) ≤ u.cm.n ∧ u.cm.n < u.cm.i + (2 ^ 5 + 1) ∧ s.cm.i < s.cm.n ∧
      t.cm.n ≤ t.cm.i := by
  decide

theorem witness_InverseMoveToFront : ∀ k ∈ ([1, 1, 0, 2] : List Byte), k.toNat < 3 := by
  decide

theorem witness_HeaderElements :
    let s : State := { State.reset with mb := { MetaBlock.reset with last := true } }
    State.reset.q = false ∧ 15 < 16 ∧ State.reset.visit.lenAcc < 16 ^ State.reset.visit.nibI ∧ State.reset.mb.last = false ∧
      s.q = false ∧ s.mb.last = true ∧ s.par.uncompFlagInFinal = false ∧
      { s.par with uncompFlagInFinal := true }.uncompFlagInFinal = true := by
  decide

theorem witness_MetaBlockLength :
    let s : State := { State.reset with q := true }
    1 + ((List.range 4).map fun i => [15, 0, 0, 0].getD i 0 * 16 ^ i).sum = 16 ∧ s.q = true ∧ s.visit.nibI = 0 ∧ s.visit.lenAcc = 0 ∧
    State.reset.q = false ∧ State.reset.visit.nibI = 0 ∧ State.reset.visit.lenAcc = 0 ∧ (∀ d ∈ [15, 0, 0, 0], d < 16) ∧
      4 ≤ [15, 0, 0, 0].length ∧ [15, 15, 15, 15, 15, 15, 15].length ≤ 7 := by
  decide

theorem witness_SizeQueryElements :
    let s : State := { State.reset with q := true }
    let t : State := { s with visit := { s.visit with qTail := true } }
    let u : State := { s with visit := { s.visit with qLast := true } }
    let v : State := { s with visit := { s.visit with qCnt := 1 } }
    15 < 16 ∧ s.visit.lenAcc < 16 ^ s.visit.nibI ∧ s.q = true ∧ s.visit.qTail = false ∧ (t.q = true ∧ t.visit.qTail = true) ∧ (u.q = true ∧ u.visit.qLast = true) ∧
      (v.q = true ∧ v.visit.qCnt ≠ 0) ∧ s.visit.qCnt = 0 ∧ s.visit.qLast = false := by
  decide

theorem witness_BodyHeaderElements :
    0 = 0 ∧ 1 ≤ 1 ∧ (Instr.cmodeSigned, 3) ∈ ([(Instr.cmodeLsb6, 0), (.cmodeMsb6, 1), (.cmodeUtf8, 2), (.cmodeSigned, 3)] : List _) := by
  decide

theorem witness_BlockSwitch :
    let s : State := { State.reset with blk := { blkReset with cmd := { nbt := 2, cur := 0, prev2 := 1, blen := 1 } } }
    let t : State := { State.reset with blk := { blkReset with cmd := { nbt := 2, cur := 0, prev2 := 1, blen := 0 } } }
    State.reset.visit.cat = .lit ∧ blkReset.lit = State.reset.blk.get State.reset.visit.cat ∧ (State.reset.blk.get .lit).nbt < 2 ∧
      (2 ≤ (s.blk.get .cmd).nbt ∧ (s.blk.get .cmd).blen ≠ 0) ∧ (2 ≤ (t.blk.get .cmd).nbt ∧ (t.blk.get .cmd).blen = 0) := by
  decide

theorem witness_BlockLengths : let x := 0; (Instr.blen25 x, 16625) ∈ ([
      (Instr.blen0 x, 1), (.blen1 x, 5), (.blen2 x, 9), (.blen3 x, 13), (.blen4 x, 17), (.blen5 x, 25),
      (.blen6 x, 33), (.blen7 x, 41), (.blen8 x, 49), (.blen9 x, 65), (.blen10 x, 81), (.blen11 x, 97),
      (.blen12 x, 113), (.blen13 x, 145), (.blen14 x, 177), (.blen15 x, 209), (.blen16 x, 241), (.blen17 x, 305),
      (.blen18 x, 369), (.blen19 x, 497), (.blen20 x, 753), (.blen21 x, 1265), (.blen22 x, 2289), (.blen23 x, 4385),
      (.blen24 x, 8481), (.blen25 x, 16625)] : List _) := by
  decide

theorem witness_CommandCells :
    let a := 7; let c := 7; (Instr.cmdsymCell10 a c, 16, 16, false) ∈ ([
      (Instr.cmdsymCell0 a c, 0, 0, true), (.cmdsymCell1 a c, 0, 8, true), (.cmdsymCell2 a c, 0, 0, false),
      (.cmdsymCell3 a c, 0, 8, false), (.cmdsymCell4 a c, 8, 0, false), (.cmdsymCell5 a c, 8, 8, false),
      (.cmdsymCell6 a c, 0, 16, false), (.cmdsymCell7 a c, 16, 0, false), (.cmdsymCell8 a c, 8, 16, false),
      (.cmdsymCell9 a c, 16, 8, false), (.cmdsymCell10 a c, 16, 16, false)] : List _) := by
  decide

theorem witness_InsertAndCopyLengths :
    let x := 0; (Instr.ins23 x, 22594 + x) ∈ ([
      (Instr.ins0, 0), (.ins1, 1), (.ins2, 2), (.ins3, 3), (.ins4, 4), (.ins5, 5), (.ins6 x, 6 + x),
      (.ins7 x, 8 + x), (.ins8 x, 10 + x), (.ins9 x, 14 + x), (.ins10 x, 18 + x), (.ins11 x, 26 + x),
      (.ins12 x, 34 + x), (.ins13 x, 50 + x), (.ins14 x, 66 + x), (.ins15 x, 98 + x), (.ins16 x, 130 + x),
      (.ins17 x, 194 + x), (.ins18 x, 322 + x), (.ins19 x, 578 + x), (.ins20 x, 1090 + x), (.ins21 x, 2114 + x),
      (.ins22 x, 6210 + x), (.ins23 x, 22594 + x)] : List _) ∧ (Instr.cpy23 x, 2118 + x) ∈ ([
      (Instr.cpy0, 2), (.cpy1, 3), (.cpy2, 4), (.cpy3, 5), (.cpy4, 6), (.cpy5, 7), (.cpy6, 8), (.cpy7, 9),
      (.cpy8 x, 10 + x), (.cpy9 x, 12 + x), (.cpy10 x, 14 + x), (.cpy11 x, 18 + x), (.cpy12 x, 22 + x),
      (.cpy13 x, 30 + x), (.cpy14 x, 38 + x), (.cpy15 x, 54 + x), (.cpy16 x, 70 + x), (.cpy17 x, 102 + x),
      (.cpy18 x, 134 + x), (.cpy19 x, 198 + x), (.cpy20 x, 326 + x), (.cpy21 x, 582 + x), (.cpy22 x, 1094 + x),
      (.cpy23 x, 2118 + x)] : List _) := by
  decide

theorem witness_InsertCheck :
    let s : State := { State.reset with cmd := { Command.reset with ins := 2 }, mb := { MetaBlock.reset with rem := 1 } }
    let t : State := { State.reset with cmd := { Command.reset with ins := 1 }, mb := { MetaBlock.reset with rem := 1 } }
    s.mb.rem < s.cmd.ins ∧ t.cmd.ins ≤ t.mb.rem := by
  decide

theorem witness_LiteralContextModes :
    let s : State := { State.reset with cm := { mapRamReset with mapL := List.replicate 64 1 } }
    3 < 4 ∧ s.rb.p1 = 0 ∧ s.rb.p2 = 0 ∧ s.mb.cmode[s.blk.lit.cur]? = some 0 ∧
      s.cm.mapL[64 * s.blk.lit.cur + literalContext s.par 0 0 0]? = some 1 := by
  decide

theorem witness_PutBytes :
    let b : Byte := 0x41; (Instr.literal b, [Todo.act .litDone]) ∈ ([(Instr.rbPut b, []), (.rawbyte b, [Todo.act .rawDone]), (.literal b, [Todo.act .litDone])] : List _) ∧ Mem.wf [(0, 0x41), (1, 0x42)] = true := by
  decide

theorem witness_ByteCounts :
    1 < { Command.reset with cpyrem := 2 }.cpyrem ∧ { Command.reset with cpyrem := 1 }.cpyrem ≤ 1 := by
  decide

theorem witness_WindowAndDictionaryCopies :
    let s : State := { withWindow 4 [(0, 0x61)] with cmd := { Command.reset with dist := 4 } }
    let t : State := { State.reset with sd := { out := [0x61], outlen := 1, outidx := 1 } }
    let u : State := { State.reset with sd := { out := [0x61], outlen := 1, outidx := 0 } }
    ¬ (1 ≤ 5 ∧ 5 ≤ min s.rb.pos (2 ^ s.rb.winBits - s.par.windowGap)) ∧
      (1 ≤ 4 ∧ 4 ≤ min s.rb.pos (2 ^ s.rb.winBits - s.par.windowGap) ∧
        memRead s.rb.mem ((s.rb.pos - 4) % 2 ^ s.rb.winBits) = 0x61 ∧ s.cmd.dist = 4) ∧
      t.sd.outidx = t.sd.outlen ∧ (u.sd.outidx ≠ u.sd.outlen ∧ u.sd.out[u.sd.outidx]? = some 0x61) := by
  decide

theorem witness_FlushChunks :
    let s : State := { withWindow 0 [] with st := .flush }
    let t : State := { withWindow 1026 [(0, 1), (1, 2)] with st := .flush }
    (s.st = .flush ∧ s.rb.pos % 2 ^ s.rb.winBits = 0) ∧
      (2 = (if t.st = .flush then t.rb.pos % 2 ^ t.rb.winBits else 2 ^ t.rb.winBits) ∧ 2 ≠ 0 ∧ ([1, 2] : List Byte).length = 2 ∧
        ∀ k, k < 2 → ([1, 2] : List Byte)[k]? = some (memRead t.rb.mem k)) := by
  decide

theorem witness_ShortDistances :
    let s : State := State.reset
    let t : State := { State.reset with dr := { d0 := 16, d1 := 15, d2 := 11, d3 := 1, idx := 0 } }
    (Instr.distsymShort4, 4, 3, -1) ∈ ([
      (Instr.distsymShort0, 0, 3, 0), (.distsymShort1, 1, 2, 0), (.distsymShort2, 2, 1, 0),
      (.distsymShort3, 3, 0, 0), (.distsymShort4, 4, 3, -1), (.distsymShort5, 5, 3, 1), (.distsymShort6, 6, 3, -2),
      (.distsymShort7, 7, 3, 2), (.distsymShort8, 8, 3, -3), (.distsymShort9, 9, 3, 3), (.distsymShort10, 10, 2, -1),
      (.distsymShort11, 11, 2, 1), (.distsymShort12, 12, 2, -2), (.distsymShort13, 13, 2, 2),
      (.distsymShort14, 14, 2, -3), (.distsymShort15, 15, 2, 3)] : List _) ∧
      (3 : Int) = (([s.dr.d0, s.dr.d1, s.dr.d2, s.dr.d3].getD (s.dr.idx + 3).toNat 0 : Nat) : Int) + -1 ∧
      (0 : Int) = (([t.dr.d0, t.dr.d1, t.dr.d2, t.dr.d3].getD (t.dr.idx + 3).toNat 0 : Nat) : Int) + -1 := by
  decide

theorem witness_ShortDistances_implicit :
    let s : State := State.reset
    let t : State := { State.reset with dr := { d0 := 16, d1 := 15, d2 := 11, d3 := 0, idx := 0 } }
    (s.cmd.dcode = 0 ∧ 4 = [s.dr.d0, s.dr.d1, s.dr.d2, s.dr.d3].getD (s.dr.idx + 3).toNat 0) ∧
      (t.cmd.dcode = 0 ∧ 0 = [t.dr.d0, t.dr.d1, t.dr.d2, t.dr.d3].getD (t.dr.idx + 3).toNat 0) := by
  decide

theorem witness_DirectAndLongDistances :
    16 ≤ State.reset.mb.numdirect ∧ 16 ≤ 16 ∧ 0 = State.reset.visit.dsym - State.reset.mb.numdirect ∧
      0 = 0 / 2 ^ State.reset.mb.npostfix ∧
      16 = State.reset.mb.numdirect + ((2 + 0 % 2) * 2 ^ (0 / 2 + 1) - 4 + 0) * 2 ^ State.reset.mb.npostfix +
        0 % 2 ^ State.reset.mb.npostfix := by
  decide

theorem witness_DirectAndLongDistances_table :
    let s : State := { State.reset with cmd := { Command.reset with cpy := 5 }, cm := { mapRamReset with mapD := [0, 1, 2, 3] } }
    let t : State := { State.reset with cmd := { Command.reset with cpy := 4 }, cm := { mapRamReset with mapD := [0, 1, 2, 3] } }
    3 = (if 4 < s.cmd.cpy then 3 else s.cmd.cpy - 2) ∧ s.cm.mapD[4 * s.blk.dist.cur + 3]? = some 3 ∧
      2 = (if 4 < t.cmd.cpy then 3 else t.cmd.cpy - 2) ∧ t.cm.mapD[4 * t.blk.dist.cur + 2]? = some 2 := by
  decide

theorem witness_WindowOrDictionary :
    let m := min (withWindow 4 []).rb.pos (2 ^ (withWindow 4 []).rb.winBits - (withWindow 4 []).par.windowGap)
    let s : State := { withWindow 4 [] with cmd := { Command.reset with dist := 4, cpy := 2 }, mb := { MetaBlock.reset with rem := 1 } }
    let t : State := { withWindow 4 [] with cmd := { Command.reset with dist := 4, cpy := 2 }, mb := { MetaBlock.reset with rem := 2 } }
    let u : State := { withWindow 4 [] with cmd := { Command.reset with dist := 5 } }
    (s.cmd.dist ≤ m ∧ s.mb.rem < s.cmd.cpy) ∧ (t.cmd.dist ≤ m ∧ t.cmd.cpy ≤ t.mb.rem ∧ t.cmd.dcode ≤ 0) ∧ m < u.cmd.dist ∧
      0 < { t.cmd with dcode := 16 }.dcode ∧ s.mb.rem < { s.sd with outlen := 2 }.outlen ∧ { s.sd with outlen := 1 }.outlen ≤ s.mb.rem := by
  decide

theorem witness_DictionaryLookup :
    (3 < 4 ∧ 24 < 25) ∧ (4 ≤ 4 ∧ 4 ≤ 24 ∧ State.reset.par.transforms.length ≤ (121 * 1024) / 2 ^ dictBits 4) ∧
      (4 ≤ 4 ∧ 4 ≤ 24 ∧ State.reset.par.transforms[(121 * 1024 - 1) / 2 ^ dictBits 4]? =
        some ⟨[32], .uppercaseFirst, [61, 39]⟩) :=
  ⟨by decide, ⟨by decide, by decide, Nat.le_of_eq rfl⟩, by decide, by decide, rfl⟩

theorem witness_DictionaryTransforms :
    State.reset.par.transforms[120]? = some ⟨[32], .uppercaseFirst, [61, 39]⟩ ∧
      (⟨[], .identity, []⟩ : Xform) ∈ Config.Params.default.transforms.take 1 ∧
      ([0x60, 0x61, 0xC0, 0xE0] : List Byte)[0]? = some 0x60 ∧ ([0x60, 0x61, 0xC0, 0xE0] : List Byte)[1]? = some 0x61 ∧
      ([0x60, 0x61, 0xC0, 0xE0] : List Byte)[2]? = some 0xC0 ∧ ([0x60, 0x61, 0xC0, 0xE0] : List Byte)[3]? = some 0xE0 := by
  decide

theorem witness_SessionControl :
    let s : State := { State.reset with wbits := 10 }
    let t : State := { State.reset with wbits := 24, st := .finished }
    let u : State := { State.reset with st := .cmdEnd }
    (s.st.noSession = true ∧ 10 ≤ s.wbits.toNat ∧ s.wbits.toNat ≤ 24) ∧
      (t.st.noSession = true ∧ 10 ≤ t.wbits.toNat ∧ t.wbits.toNat ≤ 24) ∧ u.st.noSession = false ∧
      { s with wbits := 9 }.wbits.toNat < 10 ∧ 24 < { s with wbits := 25 }.wbits.toNat := by
  decide

theorem witness_HeaderStateVisits :
    (withInput [0, 0, 8] false 24).br.cur % 8 = 0 ∧ (withInput [0, 0, 8] false 20).br.cur % 8 ≠ 0 := by
  decide

theorem witness_CommandStateVisits :
    { Command.reset with ins := 1 }.ins ≠ 0 ∧ (Command.reset.ins = 0 ∧ MetaBlock.reset.rem = 0) ∧
      (Command.reset.ins = 0 ∧ { MetaBlock.reset with rem := 1 }.rem ≠ 0 ∧ { Command.reset with cpy := 2 }.cpy ≠ 0) ∧
      { Command.reset with dcode := -1 }.dcode = -1 ∧ Command.reset.dcode ≠ -1 := by
  decide

theorem witness_CommandEnd :
    0 < { State.reset with mb := { MetaBlock.reset with rem := 1 } }.mb.rem ∧ State.reset.mb.rem = 0 := by
  decide

theorem witness_MetaBlockDone :
    { State.reset with mb := { MetaBlock.reset with last := true } }.mb.last = true ∧ State.reset.mb.last = false := by
  decide

theorem witness_FaultEntry :
    let s : State := State.raise .truncatedInput 0 (inSession State.reset .mbHeader [.elem .islast])
    State.raise .truncatedInput 0 (inSession State.reset .mbHeader [.elem .islast]) = s ∧ s.todo = [] ∧ s.snk.offer = none ∧
      s.st.noSession = true ∧ s.env.turns = .dec :: [] ∧ Agent.dec ≠ .host :=
  ⟨rfl, rfl, rfl, rfl, rfl, by decide⟩

theorem witness_StatusFunction :
    let s : State := inSession State.reset .flush [.op .rbFlush]
    let t : State := { s with snk := { offer := some [1], out := [] } }
    let u : State := inSession State.reset .mbHeader [.elem .islast]
    State.reset.st = .idle ∧ { State.reset with st := .finished }.st = .finished ∧ { State.reset with st := .error }.st = .error ∧
      (t.st.noSession = false ∧ t.snk.offer.isSome = true) ∧
      (u.st.noSession = false ∧ u.snk.offer = none ∧ u.heldOnInput = true) ∧
      (s.st.noSession = false ∧ s.snk.offer = none ∧ s.heldOnInput = false) ∧
      { State.reset with q := true }.q = true ∧ State.reset.q = false := by
  decide

/-- A state of a session with the invariant: a header element at the end of a one-byte input, the ring holding a byte. -/
def soundState : State :=
  { inSession (withInput [0x03] true 0) .mbHeader [.elem .islast] with rb := { Ring.reset with mem := [(0, 0x41)], pos := 1, winBits := 10 } }

theorem soundState_inv : soundState.Inv := by
  refine ⟨by show (0 : Nat) ≤ 8; decide, ⟨.inr rfl, rfl, by simp [soundState, inSession, withInput, BitReader.reset], rfl⟩, rfl, ?_, ?_⟩
  · exact ⟨(fun h => by cases h), (fun h => absurd rfl h)⟩
  · intro h; cases h

theorem witness_InvariantKept : soundState.Inv ∧ (after (step soundState) (fun s => s.br.cur)) = some 1 :=
  ⟨soundState_inv, by decide⟩

theorem witness_InputOnlyGrows : (after (step soundState) (fun s => (s.br.cur, s.br.input))) = some (1, [0x03]) := by
  decide

theorem witness_SinkOnlyGrows :
    after (step { State.reset with
      st := .flush, snk := { offer := some [0x41], out := [] }, env := { host := [], src := [], snk := [.accept], turns := [.snk] } })
      (fun s => s.snk.out) = some [[0x41]] := by
  decide

theorem witness_ConfigurationKept :
    after (step { State.reset with env := { host := [.setWbits 22], src := [], snk := [], turns := [.host] } }) (fun s => s.wbits) =
      some 22 := by
  decide

/-- A state of a session in which the source, the sink or the host comes next. -/
def turnState (st : St) (a : Agent) (env : Env) : State := { State.reset with st := st, env := { env with turns := [a] } }

theorem witness_InputOnlyGrows_answers :
    let s : State := turnState .mbHeader .src { State.reset.env with src := [.bytes [0x31]] }
    let t : State := turnState .idle .src { State.reset.env with src := [.eoi] }
    (s.env.turns = .src :: [] ∧ s.env.src = .bytes [0x31] :: [] ∧ s.st.noSession = false ∧ s.br.eos = false ∧ s.br.srcErr = false ∧
        ([0x31] : List Byte) ≠ []) ∧ (t.env.turns = .src :: [] ∧ t.st.noSession = true) := by
  decide

theorem witness_SinkOnlyGrows_answers :
    let s : State := { turnState .flush .snk { State.reset.env with snk := [.short 0] } with snk := { offer := some [0x41], out := [] } }
    let t : State := turnState .flush .snk { State.reset.env with snk := [.fail] }
    (s.env.turns = .snk :: [] ∧ s.env.snk = .short 0 :: [] ∧ s.snk.offer = some [0x41] ∧ 0 < ([0x41] : List Byte).length ∧
        ([0x41] : List Byte).length ≤ 1) ∧ (t.env.turns = .snk :: [] ∧ t.snk.offer = none) := by
  decide

theorem witness_ConfigurationKept_writes :
    let s : State := turnState .idle .host { State.reset.env with host := [.setWbits 22] }
    let t : State := turnState .mbHeader .host { State.reset.env with host := [.ctrl 4] }
    let u : State := turnState .idle .host State.reset.env
    (s.env.turns = .host :: [] ∧ s.env.host = .setWbits 22 :: [] ∧ s.st.noSession = true) ∧
      (t.env.turns = .host :: [] ∧ t.env.host = .ctrl 4 :: [] ∧ t.st.noSession = false ∧ 4 ≠ 1 ∧ 4 ≠ 2 ∧ 4 ≠ 3) ∧
      (u.env.turns = .host :: [] ∧ u.env.host = []) := by
  decide

end Sys2Proof.Tests
end

section
/-! PROOF. What the block itself never writes: the parameters (R6), `CFG.WBITS` (R24), the data of the agents and the output the
sink has accepted. No instruction, no statement of a visit and no turn of DEC changes them; the three other agents write them. -/

namespace Sys2Proof.Machine

/-- The part of a state that only the host, the source and the sink write. -/
structure Outside where
  par      : Config.Params
  wbits    : BitVec 5
  env      : Env
  accepted : List (List Byte)

/-- The part of `s` that only the host, the source and the sink write. -/
def State.outside (s : State) : Outside :=
  { par := s.par, wbits := s.wbits, env := s.env, accepted := s.snk.out }

/-- A next state, where the outcome is one, has the value `v` of the item `f`. -/
def Keeps {α : Type} (f : State → α) (v : α) : Result → Prop
  | .next t => f t = v
  | .fault _ => True
  | .refused _ => True

theorem Keeps.eq_of_next {α : Type} {f : State → α} {v : α} {r : Result} {t : State} (h : Keeps f v r) (hr : r = .next t) :
    f t = v := by
  subst hr
  exact h

/-! ## The shared operations -/

theorem State.returnPeek_outside (v : Nat) (s : State) : (s.returnPeek v).outside = s.outside := rfl

theorem State.rbFlush_outside (s : State) : s.rbFlush.outside = s.outside := by
  obtain ⟨-, h⟩ | ⟨-, h⟩ := s.rbFlush_cases
  · rw [h]
  · rw [h]
    rfl

theorem State.onTaken_keeps (i : Instr) (t : Taken) {f : State → State} (hf : ∀ u, (f u).outside = u.outside) (s : State) :
    Keeps State.outside s.outside (s.onTaken i t f) := by
  obtain ⟨b, -, h⟩ | ⟨-, h⟩ | ⟨k, b, -, h⟩ := s.onTaken_cases i t f
  · rw [h]
    exact hf _
  · rw [h]
    rfl
  · rw [h]
    rfl

theorem State.resolveCode_outside (s : State) (c : Nat) : (s.resolveCode c).outside = s.outside := by
  obtain ⟨-, h⟩ | ⟨-, -, h⟩ | ⟨-, -, h⟩ := s.resolveCode_cases c <;> rw [h] <;> rfl

theorem State.sdLookup_outside (len wordId : Nat) (s : State) : (s.sdLookup len wordId).outside = s.outside := by
  obtain ⟨-, h⟩ | ⟨-, -, h⟩ | ⟨w, -, -, -, h⟩ := s.sdLookup_cases len wordId <;> rw [h] <;> rfl

theorem State.putEntry_keeps (v : Nat) (s : State) : Keeps State.outside s.outside (s.putEntry v) := by
  obtain ⟨-, h⟩ | ⟨-, h⟩ := s.putEntry_cases v
  · rw [h]
    rfl
  · rw [h]
    trivial

theorem State.storeBuilt_keeps (r : TableRef) (s : State) : Keeps State.outside s.outside (s.storeBuilt r) := by
  obtain ⟨t, -, h⟩ | ⟨-, h⟩ := s.storeBuilt_cases r
  · rw [h]
    rfl
  · rw [h]
    trivial

theorem State.start_outside (s : State) : s.start.outside = s.outside := by
  obtain ⟨-, -, -, h⟩ | ⟨-, h⟩ := s.start_cases
  · rw [h]
    rfl
  · rw [h]

theorem State.sizeq_outside (s : State) : s.sizeq.outside = s.outside := by
  obtain ⟨-, h⟩ | ⟨-, h⟩ := s.sizeq_cases
  · rw [h]
    rfl
  · rw [h]

theorem State.putRepeat_outside (xb x : Nat) (s : State) : (s.putRepeat xb x).outside = s.outside := by
  simp only [State.putRepeat]
  split <;> rfl

theorem State.headerBranch_outside (s : State) : s.headerBranch.outside = s.outside := by
  simp only [State.headerBranch]
  split <;> rfl

/-! ## The statements of a visit that branch -/

theorem State.endLen_outside (s : State) : s.endLen.outside = s.outside := by
  simp only [State.endLen]
  split
  · split <;> rfl
  · split
    · rfl
    · exact State.headerBranch_outside _

theorem State.skipStored_outside (s : State) : s.skipStored.outside = s.outside := by
  simp only [State.skipStored]
  split <;> rfl

theorem State.rawDone_outside (s : State) : s.rawDone.outside = s.outside := by
  simp only [State.rawDone]
  split <;> rfl

theorem State.simpleCheck_outside (s : State) : s.simpleCheck.outside = s.outside := by
  simp only [State.simpleCheck]
  split_ifs <;> rfl

theorem State.clclLoop_outside (s : State) : s.clclLoop.outside = s.outside := by
  simp only [State.clclLoop]
  split_ifs <;> rfl

theorem State.clsymLoop_outside (s : State) : s.clsymLoop.outside = s.outside := by
  simp only [State.clsymLoop]
  split_ifs <;> rfl

theorem State.cmLoop_outside (s : State) : s.cmLoop.outside = s.outside := by
  simp only [State.cmLoop]
  split <;> rfl

theorem State.tick_outside (c : Cat) (s : State) : (s.tick c).outside = s.outside := by
  simp only [State.tick]
  split_ifs <;> rfl

theorem State.cmdHeaderEnd_outside (s : State) : s.cmdHeaderEnd.outside = s.outside := by
  simp only [State.cmdHeaderEnd]
  split <;> rfl

theorem State.pushDistance_outside (s : State) : s.pushDistance.outside = s.outside := by
  simp only [State.pushDistance]
  split <;> rfl

theorem State.classify_outside (s : State) : s.classify.outside = s.outside := by
  simp only [State.classify]
  split
  · split
    · rfl
    · exact State.pushDistance_outside _
  · rfl

theorem State.copyDone_outside (s : State) : s.copyDone.outside = s.outside := by
  simp only [State.copyDone]
  split <;> rfl

theorem State.dictCheck_outside (s : State) : s.dictCheck.outside = s.outside := by
  simp only [State.dictCheck]
  split <;> rfl

/-- No statement of a visit writes outside the block; those left to the last case do not branch. -/
theorem runAct_keeps (m : Act) (s : State) : Keeps State.outside s.outside (runAct m s) := by
  cases m with
  | endLen => exact s.endLen_outside
  | skipStored => exact s.skipStored_outside
  | rawDone => exact s.rawDone_outside
  | store r => exact s.storeBuilt_keeps r
  | simpleCheck => exact s.simpleCheck_outside
  | clclLoop => exact s.clclLoop_outside
  | clsymLoop => exact s.clsymLoop_outside
  | cmLoop => exact s.cmLoop_outside
  | tick c => exact s.tick_outside c
  | cmdHeaderEnd => exact s.cmdHeaderEnd_outside
  | resolve => exact s.resolveCode_outside _
  | classify => exact s.classify_outside
  | copyDone => exact s.copyDone_outside
  | dictCheck => exact s.dictCheck_outside
  | _ => exact rfl

/-! ## The instructions that branch -/

theorem execIslast_keeps (v : Bool) (s : State) : Keeps State.outside s.outside (execIslast v s) := by
  simp only [execIslast]
  split_ifs <;> rfl

theorem execIsempty_keeps (v : Bool) (s : State) : Keeps State.outside s.outside (execIsempty v s) := by
  simp only [execIsempty]
  split_ifs <;> rfl

theorem execIsuncompressed_keeps (v : Bool) (s : State) : Keeps State.outside s.outside (execIsuncompressed v s) := by
  simp only [execIsuncompressed]
  split
  · split <;> rfl
  · exact State.headerBranch_outside _

theorem execNtrees_keeps (v : Nat) (s : State) : Keeps State.outside s.outside (execNtrees v s) := by
  simp only [execNtrees]
  split <;> rfl

theorem execRleflag_keeps (v : Bool) (s : State) : Keeps State.outside s.outside (execRleflag v s) := by
  simp only [execRleflag]
  split <;> rfl

theorem execCmrun_keeps (k x : Nat) (s : State) : Keeps State.outside s.outside (execCmrun k x s) := by
  simp only [execCmrun]
  split <;> rfl

theorem execImtf_keeps (v : Bool) (s : State) : Keeps State.outside s.outside (execImtf v s) := by
  simp only [execImtf]
  split <;> rfl

theorem execBrFill_keeps (s : State) : Keeps State.outside s.outside (execBrFill s) := by
  simp only [execBrFill]
  split_ifs <;> rfl

theorem execBrPeek_keeps (n : Nat) (s : State) : Keeps State.outside s.outside (execBrPeek n s) := by
  simp only [execBrPeek]
  split <;> rfl

theorem execHtBuild_keeps (src : LenSrc) (a r : Nat) (s : State) :
    Keeps State.outside s.outside (execHtBuild src a r s) := by
  simp only [execHtBuild]
  split <;> rfl

theorem execHdSym_keeps (r : TableRef) (s : State) : Keeps State.outside s.outside (execHdSym r s) := by
  simp only [execHdSym]
  split
  · trivial
  · split
    · trivial
    · exact s.onTaken_keeps _ _ (State.returnPeek_outside _)

theorem execRbGet_keeps (d : Nat) (s : State) : Keeps State.outside s.outside (execRbGet d s) := by
  simp only [execRbGet]
  split
  · rfl
  · trivial

theorem execRbCopy_keeps (d n : Nat) (s : State) : Keeps State.outside s.outside (execRbCopy d n s) := by
  cases n with
  | zero => rfl
  | succ m =>
    simp only [execRbCopy]
    split
    · rfl
    · trivial

theorem execSdTransform_keeps (word : List Byte) (t : Nat) (s : State) :
    Keeps State.outside s.outside (execSdTransform word t s) := by
  simp only [execSdTransform, State.sdTransform]
  split
  · rfl
  · trivial

theorem execCdUncompressedCopy_keeps (s : State) : Keeps State.outside s.outside (execCdUncompressedCopy s) := by
  simp only [execCdUncompressedCopy]
  split <;> rfl

theorem execCdCmdLiteral_keeps (s : State) : Keeps State.outside s.outside (execCdCmdLiteral s) := by
  simp only [execCdCmdLiteral]
  split_ifs <;> rfl

theorem execCdCmdDistance_keeps (s : State) : Keeps State.outside s.outside (execCdCmdDistance s) := by
  simp only [execCdCmdDistance]
  split <;> rfl

theorem execCdCmdCopyWindow_keeps (s : State) : Keeps State.outside s.outside (execCdCmdCopyWindow s) := by
  simp only [execCdCmdCopyWindow]
  split
  · rfl
  · trivial

theorem execCdCmdCopyDict_keeps (s : State) : Keeps State.outside s.outside (execCdCmdCopyDict s) := by
  simp only [execCdCmdCopyDict]
  split
  · rfl
  · split
    · rfl
    · trivial

theorem execCdCmdEnd_keeps (s : State) : Keeps State.outside s.outside (execCdCmdEnd s) := by
  simp only [execCdCmdEnd]
  split <;> rfl

theorem execCdMbDone_keeps (s : State) : Keeps State.outside s.outside (execCdMbDone s) := by
  simp only [execCdMbDone]
  split <;> rfl

/-- No instruction writes outside the block, the session control of the host included; those left to the last case do not
branch. -/
theorem exec_keeps (i : Instr) (s : State) : Keeps State.outside s.outside (exec i s) := by
  cases i with
  | islast v => exact execIslast_keeps v s
  | isempty v => exact execIsempty_keeps v s
  | isuncompressed v => exact execIsuncompressed_keeps v s
  | ntrees v => exact execNtrees_keeps v s
  | rleflag v => exact execRleflag_keeps v s
  | cmsymZero => exact s.putEntry_keeps _
  | cmsymTree k => exact s.putEntry_keeps _
  | cmrun k x => exact execCmrun_keeps k x s
  | imtf v => exact execImtf_keeps v s
  | clrepExtra16 x | clrepExtra17 x => exact s.putRepeat_outside _ x
  | distsymShort0 | distsymShort1 | distsymShort2 | distsymShort3 | distsymShort4 | distsymShort5 | distsymShort6
  | distsymShort7 | distsymShort8 | distsymShort9 | distsymShort10 | distsymShort11 | distsymShort12 | distsymShort13
  | distsymShort14 | distsymShort15 | distsymDirect c | distExtra nb x => exact s.resolveCode_outside _
  | brFill => exact execBrFill_keeps s
  | brPeek n => exact execBrPeek_keeps n s
  | brDrop n | brAlign => exact s.onTaken_keeps _ _ (f := id) (fun _ => rfl)
  | brRead n | brByte => exact s.onTaken_keeps _ _ (State.returnPeek_outside _)
  | htBuild src a r => exact execHtBuild_keeps src a r s
  | hdSym r => exact execHdSym_keeps r s
  | rbGet d => exact execRbGet_keeps d s
  | rbCopy d n => exact execRbCopy_keeps d n s
  | rbFlush => exact s.rbFlush_outside
  | sdLookup len wordId => exact s.sdLookup_outside len wordId
  | sdTransform word t => exact execSdTransform_keeps word t s
  | opStart | ctrlStart => exact s.start_outside
  | opSizeq | ctrlSizeq => exact s.sizeq_outside
  | cdUncompressedCopy => exact execCdUncompressedCopy_keeps s
  | cdCmdLiteral => exact execCdCmdLiteral_keeps s
  | cdCmdDistance => exact execCdCmdDistance_keeps s
  | cdCmdCopyWindow => exact execCdCmdCopyWindow_keeps s
  | cdCmdCopyDict => exact execCdCmdCopyDict_keeps s
  | cdCmdEnd => exact execCdCmdEnd_keeps s
  | cdMbDone => exact execCdMbDone_keeps s
  | _ => exact rfl

/-! ## A turn of DEC -/

theorem State.fillFor_outside (i : Instr) (s : State) : (s.fillFor i).outside = s.outside := by
  simp only [State.fillFor]
  split <;> rfl

/-- No turn of DEC writes outside the block, whatever stands at the front of the agenda. -/
theorem decTurn_keeps (s : State) : Keeps State.outside s.outside (decTurn s) := by
  simp only [decTurn]
  split
  · rfl
  · split
    · exact exec_keeps _ s
    · next i rest _ =>
      split
      · rfl
      · have h := exec_keeps i (State.fillFor i { s with todo := rest })
        rwa [State.fillFor_outside] at h
    · exact runAct_keeps _ _
    · split
      · exact exec_keeps _ _
      · rfl
      · rfl
      · trivial

end Sys2Proof.Machine
end

section
/-! PROOF. The parameters and `CFG.WBITS` over a step of any agent, and each action of the host. -/

namespace Sys2Proof.Machine

/-- The parameters (R6) and `CFG.WBITS` (R24). -/
def State.config (s : State) : Config.Params × BitVec 5 := (s.par, s.wbits)

theorem Keeps.config_of_outside {s : State} {r : Result} (h : Keeps State.outside s.outside r) :
    Keeps State.config s.config r := by
  cases r with
  | next t => exact congrArg (fun o : Outside => (o.par, o.wbits)) h
  | fault f => trivial
  | refused r => trivial

/-! ## The source and the sink -/

theorem State.srcAnswer_config (a : SrcAns) (s : State) : (s.srcAnswer a).config = s.config := by
  cases a with
  | bytes l => cases l <;> rfl
  | notYet => rfl
  | eoi => rfl
  | error => rfl

theorem srcTurn_keeps (s : State) : Keeps State.config s.config (srcTurn s) := by
  simp only [srcTurn]
  split
  · split
    · rfl
    · exact State.srcAnswer_config _ _
  · rfl

theorem State.snkAnswer_config (a : SnkAns) (chunk : List Byte) (s : State) : (s.snkAnswer a chunk).config = s.config := by
  cases a with
  | accept => rfl
  | busy => rfl
  | short k =>
    simp only [State.snkAnswer]
    split <;> rfl
  | fail => rfl

theorem snkTurn_keeps (s : State) : Keeps State.config s.config (snkTurn s) := by
  simp only [snkTurn]
  split
  · rfl
  · split
    · rfl
    · exact State.snkAnswer_config _ _ _

/-! ## The host -/

/-- The list of turns becomes `ts`. -/
def State.setTurns (ts : List Agent) (s : State) : State := { s with env := { s.env with turns := ts } }

/-- The pending actions of the host become `rest`. -/
def State.setHost (rest : List HostAct) (s : State) : State := { s with env := { s.env with host := rest } }

theorem hostTurn_nil {s : State} (h : s.env.host = []) : hostTurn s = .next s := by
  simp only [hostTurn, h]

theorem hostTurn_setWbits {s : State} {v : BitVec 5} {rest : List HostAct} (h : s.env.host = .setWbits v :: rest) :
    hostTurn s = .next ((s.setHost rest).writeWbits v) := by
  simp only [hostTurn, h, State.setHost]

theorem hostTurn_ctrl {s : State} {v : Nat} {rest : List HostAct} (h : s.env.host = .ctrl v :: rest) :
    hostTurn s = writeCtrl v (s.setHost rest) := by
  simp only [hostTurn, h, State.setHost]

theorem hostTurn_reset {s : State} {rest : List HostAct} (h : s.env.host = .reset :: rest) :
    hostTurn s = .next (s.setHost rest).hardReset := by
  simp only [hostTurn, h, State.setHost]

theorem State.writeWbits_of_noSession {s : State} (v : BitVec 5) (h : s.st.noSession = true) :
    s.writeWbits v = { s with wbits := v } := if_pos h

theorem State.writeWbits_of_session {s : State} (v : BitVec 5) (h : s.st.noSession = false) : s.writeWbits v = s := by
  simp only [State.writeWbits, h, Bool.false_eq_true, if_false]

theorem ctrlOfNumber_eq_none {v : Nat} (h1 : v ≠ 1) (h2 : v ≠ 2) (h3 : v ≠ 3) : ctrlOfNumber v = none := by
  unfold ctrlOfNumber
  split
  · exact absurd rfl h1
  · exact absurd rfl h2
  · exact absurd rfl h3
  · rfl

theorem writeCtrl_ignored {v : Nat} (s : State) (h1 : v ≠ 1) (h2 : v ≠ 2) (h3 : v ≠ 3) : writeCtrl v s = .next s := by
  simp only [writeCtrl, ctrlOfNumber_eq_none h1 h2 h3]

theorem writeCtrl_keeps (v : Nat) (s : State) : Keeps State.config s.config (writeCtrl v s) := by
  simp only [writeCtrl]
  split
  · exact (exec_keeps _ s).config_of_outside
  · rfl

/-! ## One step -/

/-- What a step from `s` to `t` may do to the configuration: a pending write of `CFG.WBITS` without a session, or a pending reset,
changes `CFG.WBITS`; nothing else changes, and the parameters never. -/
def State.ConfigStep (s t : State) : Prop :=
  t.par = s.par ∧
    (t.wbits = s.wbits ∨ (∃ v rest, s.env.host = .setWbits v :: rest ∧ s.st.noSession = true ∧ t.wbits = v) ∨
      (∃ rest, s.env.host = .reset :: rest))

theorem Keeps.configStep {s t : State} {r : Result} (h : Keeps State.config s.config r) (hr : r = .next t) : s.ConfigStep t := by
  obtain ⟨hpar, hwbits⟩ := Prod.mk.inj (h.eq_of_next hr)
  exact ⟨hpar, .inl hwbits⟩

theorem State.writeWbits_configStep {s : State} {v : BitVec 5} {rest : List HostAct} (h : s.env.host = .setWbits v :: rest) :
    s.ConfigStep ((s.setHost rest).writeWbits v) := by
  cases hs : s.st.noSession with
  | true =>
    rw [State.writeWbits_of_noSession (s := s.setHost rest) v hs]
    exact ⟨rfl, .inr (.inl ⟨v, rest, h, hs, rfl⟩)⟩
  | false =>
    rw [State.writeWbits_of_session (s := s.setHost rest) v hs]
    exact ⟨rfl, .inl rfl⟩

theorem hostTurn_configStep {s t : State} (h : hostTurn s = .next t) : s.ConfigStep t := by
  match hh : s.env.host with
  | [] =>
    rw [hostTurn_nil hh] at h
    cases h
    exact ⟨rfl, .inl rfl⟩
  | .setWbits v :: rest =>
    rw [hostTurn_setWbits hh] at h
    cases h
    exact State.writeWbits_configStep hh
  | .ctrl v :: rest =>
    rw [hostTurn_ctrl hh] at h
    have hkeeps : Keeps State.config s.config (writeCtrl v (s.setHost rest)) := writeCtrl_keeps v (s.setHost rest)
    exact hkeeps.configStep h
  | .reset :: rest =>
    rw [hostTurn_reset hh] at h
    cases h
    exact ⟨rfl, .inr (.inr ⟨rest, hh⟩)⟩

theorem agentTurn_configStep {a : Agent} {s t : State} (h : agentTurn a s = .next t) : s.ConfigStep t := by
  cases a with
  | dec => exact (decTurn_keeps s).config_of_outside.configStep h
  | src => exact (srcTurn_keeps s).configStep h
  | snk => exact (snkTurn_keeps s).configStep h
  | host => exact hostTurn_configStep h

theorem step_of_turn {s : State} {a : Agent} {ts : List Agent} (h : s.env.turns = a :: ts) :
    step s = agentTurn a (s.setTurns ts) := by
  simp only [step, h, State.setTurns]

/-- Every step is the turn of some agent, in the same state but for the list of turns. -/
theorem step_eq_agentTurn (s : State) : ∃ a ts, step s = agentTurn a (s.setTurns ts) := by
  match h : s.env.turns with
  | [] =>
    have hstep : step s = agentTurn s.defaultTurn s := by simp only [step, h]
    exact ⟨s.defaultTurn, s.env.turns, hstep⟩
  | a :: ts => exact ⟨a, ts, step_of_turn h⟩

theorem step_configStep {s t : State} (h : step s = .next t) : s.ConfigStep t := by
  obtain ⟨a, ts, hstep⟩ := step_eq_agentTurn s
  have hturn : (s.setTurns ts).ConfigStep t := agentTurn_configStep (hstep.symm.trans h)
  exact hturn

/-- Settles O60: the step rule `step_configStep`, and the equations of the host's turn, one per action. -/
theorem configurationKept : Obligations.ConfigurationKept := by
  refine ⟨fun s t => step_configStep, ?_, ?_⟩
  · intro s u ts rest a hturns hhost hu
    have hstep : step s = hostTurn (s.setTurns ts) := step_of_turn hturns
    have hpending : (s.setTurns ts).env.host = a :: rest := hhost
    have hu : (s.setTurns ts).setHost rest = u := hu.symm
    have hst : u.st = s.st := by rw [← hu]; rfl
    have hctrl (v : Nat) (ha : a = .ctrl v) : step s = writeCtrl v u := by
      rw [hstep, hostTurn_ctrl (ha ▸ hpending), hu]
    refine ⟨?_, ?_, hctrl 1, hctrl 2, hctrl 3, ?_, ?_⟩
    · rintro v rfl hs
      rw [hstep, hostTurn_setWbits hpending, hu, State.writeWbits_of_noSession v (hst ▸ hs)]
    · rintro v rfl hs
      rw [hstep, hostTurn_setWbits hpending, hu, State.writeWbits_of_session v (hst ▸ hs)]
    · intro v ha h1 h2 h3
      rw [hctrl v ha, writeCtrl_ignored u h1 h2 h3]
    · rintro rfl
      rw [hstep, hostTurn_reset hpending, hu]
      rfl
  · intro s ts hturns hhost
    have hpending : (s.setTurns ts).env.host = [] := hhost
    exact (step_of_turn hturns).trans (hostTurn_nil hpending)

end Sys2Proof.Machine
end

section
/-! PROOF. What an instruction, or a statement of a visit, can do to the items that the invariant speaks of: the bit reader, the
cells of `RB.MEM`, `CD.ST`, `ERR.*` and the boundary to the sink. -/

namespace Sys2Proof.Machine

/-! ## What a read of the stream can do to the bit reader -/

/-- `c` is `b` after reads and fills: the input and its end stay, the cursor does not go back, and R13 and R14 are kept. -/
structure BitReader.Reads (b c : BitReader) : Prop where
  input    : c.input = b.input
  eos      : c.eos = b.eos
  srcErr   : c.srcErr = b.srcErr
  cur      : b.cur ≤ c.cur
  cursor   : b.CursorOk → c.CursorOk
  register : b.RegisterOk → c.RegisterOk

theorem BitReader.Reads.refl (b : BitReader) : b.Reads b := ⟨rfl, rfl, rfl, Nat.le_refl _, id, id⟩

theorem BitReader.reads_fill (b : BitReader) : b.Reads b.fill where
  input := b.fill_input
  eos := b.fill_eos
  srcErr := b.fill_srcErr
  cur := b.fill_cur.ge
  cursor h := by simpa only [BitReader.CursorOk, BitReader.fill_cur, BitReader.fill_avail] using h
  register h := h.fill

theorem BitReader.reads_advance {b : BitReader} {n : Nat} (h : n = 0 ∨ b.cur + n ≤ b.avail) : b.Reads (b.advance n) where
  input := rfl
  eos := rfl
  srcErr := rfl
  cur := Nat.le_add_right _ _
  cursor hb := by
    simp only [BitReader.CursorOk, BitReader.advance_cur, BitReader.advance_avail] at hb ⊢
    omega
  register hr := hr.advance n

/-- An answer to reads that start at `b`: where they succeed or fault, the bit reader is one after reads, and a fault has a
kind. -/
def Taken.From (b : BitReader) : Taken → Prop
  | .ok c => b.Reads c
  | .hold => True
  | .fail k c => b.Reads c ∧ k ≠ .none

theorem ErrKind.ne_none_of_read {k : ErrKind} (h : k = .sourceFailed ∨ k = .truncatedInput) : k ≠ .none := by
  rintro rfl
  simp at h

theorem BitReader.take_from (p : Config.Params) (b : BitReader) (f : Field) : (b.take p f).From b := by
  cases h : b.take p f with
  | ok c =>
    obtain ⟨rfl, hbits⟩ := BitReader.take_ok h
    exact BitReader.reads_advance hbits
  | hold => trivial
  | fail k c =>
    obtain ⟨rfl, hk⟩ := BitReader.take_fail h
    exact ⟨.refl _, ErrKind.ne_none_of_read hk⟩

theorem BitReader.takeAll_from (p : Config.Params) (b : BitReader) (fs : List Field) : (BitReader.takeAll p b fs).From b := by
  cases h : BitReader.takeAll p b fs with
  | ok c =>
    obtain ⟨hin, heos, herr, hcur, hok⟩ := BitReader.takeAll_ok h
    exact ⟨hin, heos, herr, hcur ▸ Nat.le_add_right _ _, hok, fun hr => hr.takeAll_ok h⟩
  | hold => trivial
  | fail k c =>
    obtain ⟨hin, heos, herr, hcur, hok, hk⟩ := BitReader.takeAll_fail h
    exact ⟨⟨hin, heos, herr, hcur, hok, fun hr => hr.takeAll_fail h⟩, ErrKind.ne_none_of_read hk⟩

theorem State.readSym_from {s : State} {t : Table} {sym : Nat} {tk : Taken} (h : s.readSym t = some (sym, tk)) :
    tk.From s.br := by
  simp only [State.readSym] at h
  split at h
  · cases h
  · cases h
    exact BitReader.takeAll_from _ _ _

/-- What the answer of a fetch says of the bit reader, as `Taken.From` does of a read. -/
def Fetched.From (b : BitReader) : Fetched → Prop
  | .ok _ c => b.Reads c
  | .hold => True
  | .fail k c => b.Reads c ∧ k ≠ .none
  | .bad => True

theorem State.fetch_from (s : State) (k : Elem) : (s.fetch k).From s.br := by
  simp only [State.fetch]
  split
  · trivial
  · split
    · trivial
    · next i fs _ =>
      have h := BitReader.takeAll_from s.par s.br fs
      generalize BitReader.takeAll s.par s.br fs = tk at h ⊢
      cases tk with
      | ok b => exact h
      | hold => trivial
      | fail e b => exact h

/-! ## The items the invariant speaks of, and the ways to write them -/

/-- The items that the invariant speaks of, apart from the agenda. -/
structure Watched where
  st  : St
  err : ErrReg
  br  : BitReader
  mem : Mem
  snk : Sink

def State.watched (s : State) : Watched := { st := s.st, err := s.err, br := s.br, mem := s.rb.mem, snk := s.snk }

/-- R320: `t` has just been reset, and may have begun a session. The cells of `RB.MEM` and what the sink has accepted are
those of `w`. -/
def Watched.Fresh (w : Watched) (t : State) : Prop :=
  t.todo = [] ∧ ∃ st, st ≠ .error ∧
    t.watched = { st := st, err := State.reset.err, br := BitReader.reset, mem := w.mem, snk := ⟨none, w.snk.out⟩ }

/-- All that an instruction or a statement run with the items `w` can do to them; `t` is the next state. -/
inductive Watched.Effect (t : State) (w : Watched) : Prop
  /-- nothing, or reads of the stream -/
  | read (b : BitReader) (hb : w.br.Reads b) (h : t.watched = { w with br := b })
  /-- R235: `goto` -/
  | goto (st : St) (hst : st ≠ .error) (ht : t.todo = []) (h : t.watched = { w with st := st })
  /-- R306: `raise`, after reads of the stream -/
  | raised (k : ErrKind) (sub : Nat) (b : BitReader) (hb : w.br.Reads b) (hk : k ≠ .none) (ht : t.todo = [])
      (h : t.watched = { st := .error, err := ⟨k, sub⟩, br := b, mem := w.mem, snk := { w.snk with offer := none } })
  /-- R199: one cell of the window is written -/
  | put (a : Nat) (v : Byte) (h : t.watched = { w with mem := memWrite w.mem a v })
  /-- R302: a chunk is put on offer -/
  | push (chunk : List Byte) (h : t.watched = { w with snk := { w.snk with offer := some chunk } })
  /-- R235, R236, R280: a session begins, or is aborted -/
  | fresh (h : w.Fresh t)

theorem Watched.Effect.stay {w : Watched} {t : State} (h : t.watched = w) : w.Effect t := .read w.br (.refl _) h

/-- A next state, where the outcome is one, has the property `P`. -/
def Answers (P : State → Prop) : Result → Prop
  | .next t => P t
  | .fault _ => True
  | .refused _ => True

theorem Answers.of_next {P : State → Prop} {r : Result} {t : State} (h : Answers P r) (hr : r = .next t) : P t := by
  subst hr
  exact h

theorem Answers.mono {P Q : State → Prop} {r : Result} (h : Answers P r) (hPQ : ∀ t, P t → Q t) : Answers Q r := by
  cases r with
  | next t => exact hPQ t h
  | fault f => trivial
  | refused f => trivial

/-! ## The shared operations -/

theorem State.goto_effect {st : St} (hst : st ≠ .error) (s : State) : s.watched.Effect (s.goto st) := .goto st hst rfl rfl

theorem State.raise_effect {k : ErrKind} (hk : k ≠ .none) (sub : Nat) (s : State) : s.watched.Effect (s.raise k sub) :=
  .raised k sub s.br (.refl _) hk rfl rfl

theorem State.rbPut_effect (b : Byte) (l : List Todo) (s : State) : s.watched.Effect (s.rbPut b l) := .put _ b rfl

theorem State.rbFlush_effect (s : State) : s.watched.Effect s.rbFlush := by
  obtain ⟨-, h⟩ | ⟨-, h⟩ := s.rbFlush_cases
  · rw [h]
    exact .stay rfl
  · rw [h]
    exact .push _ rfl

theorem State.returnPeek_watched (v : Nat) (s : State) : (s.returnPeek v).watched = s.watched := rfl

theorem State.onTaken_effect (i : Instr) {tk : Taken} {f : State → State} (hf : ∀ u, (f u).watched = u.watched) {s : State}
    (htk : tk.From s.br) : Answers s.watched.Effect (s.onTaken i tk f) := by
  cases tk with
  | ok b => exact .read b htk (hf _)
  | hold => exact .stay rfl
  | fail k b => exact .raised k 0 b htk.1 htk.2 rfl rfl

theorem State.resolveCode_effect (s : State) (c : Nat) : s.watched.Effect (s.resolveCode c) := by
  obtain ⟨-, h⟩ | ⟨-, -, h⟩ | ⟨-, -, h⟩ := s.resolveCode_cases c
  · rw [h]
    exact .stay rfl
  · rw [h]
    exact .stay rfl
  · rw [h]
    exact State.raise_effect (by decide) 1 _

theorem State.sdLookup_effect (len wordId : Nat) (s : State) : s.watched.Effect (s.sdLookup len wordId) := by
  obtain ⟨-, h⟩ | ⟨-, -, h⟩ | ⟨w, -, -, -, h⟩ := s.sdLookup_cases len wordId
  · rw [h]
    exact s.raise_effect (by decide) 1
  · rw [h]
    exact s.raise_effect (by decide) 2
  · rw [h]
    exact .stay rfl

theorem State.putEntry_effect (v : Nat) (s : State) : Answers s.watched.Effect (s.putEntry v) := by
  obtain ⟨-, h⟩ | ⟨-, h⟩ := s.putEntry_cases v
  · rw [h]
    exact .stay rfl
  · rw [h]
    trivial

theorem State.storeBuilt_effect (r : TableRef) (s : State) : Answers s.watched.Effect (s.storeBuilt r) := by
  obtain ⟨t, -, h⟩ | ⟨-, h⟩ := s.storeBuilt_cases r
  · rw [h]
    exact .stay rfl
  · rw [h]
    trivial

theorem State.sessionReset_fresh (s : State) : s.watched.Fresh s.sessionReset := ⟨rfl, .idle, by decide, rfl⟩

theorem State.start_fresh (s : State) : s.start = s ∨ s.watched.Fresh s.start := by
  obtain ⟨-, -, -, h⟩ | ⟨-, h⟩ := s.start_cases
  · rw [h]
    exact .inr ⟨rfl, .mbBegin, by decide, rfl⟩
  · exact .inl h

theorem State.sizeq_fresh (s : State) : s.sizeq = s ∨ s.watched.Fresh s.sizeq := by
  obtain ⟨-, h⟩ | ⟨-, h⟩ := s.sizeq_cases
  · rw [h]
    exact .inr ⟨rfl, .mbHeader, by decide, rfl⟩
  · exact .inl h

theorem Watched.Effect.of_eq_or_fresh {s t : State} (h : t = s ∨ s.watched.Fresh t) : s.watched.Effect t :=
  h.elim (fun heq => .stay (congrArg State.watched heq)) .fresh

theorem State.queryReturn_effect (v : Nat) (s : State) : s.watched.Effect (s.queryReturn v) :=
  .goto .finished (by decide) rfl rfl

theorem State.headerBranch_effect (s : State) : s.watched.Effect s.headerBranch := by
  simp only [State.headerBranch]
  split
  · exact s.goto_effect (by decide)
  · exact s.goto_effect (by decide)

theorem State.putRepeat_effect (xb x : Nat) (s : State) : s.watched.Effect (s.putRepeat xb x) := by
  simp only [State.putRepeat]
  split
  · exact State.raise_effect (by decide) 6 _
  · exact .stay rfl

/-! ## The statements of a visit that branch -/

theorem State.endLen_effect (s : State) : s.watched.Effect s.endLen := by
  simp only [State.endLen]
  split
  · split
    · exact State.queryReturn_effect _ _
    · exact .stay rfl
  · split
    · exact .stay rfl
    · exact State.headerBranch_effect _

theorem State.skipStored_effect (s : State) : s.watched.Effect s.skipStored := by
  simp only [State.skipStored]
  split <;> exact .stay rfl

theorem State.rawDone_effect (s : State) : s.watched.Effect s.rawDone := by
  simp only [State.rawDone]
  split
  · exact State.goto_effect (by decide) _
  · exact State.goto_effect (by decide) _

theorem State.simpleCheck_effect (s : State) : s.watched.Effect s.simpleCheck := by
  simp only [State.simpleCheck]
  split
  · exact s.raise_effect (by decide) 3
  · split
    · exact s.raise_effect (by decide) 4
    · split <;> exact .stay rfl

theorem State.clclLoop_effect (s : State) : s.watched.Effect s.clclLoop := by
  simp only [State.clclLoop]
  split
  · exact .stay rfl
  · split
    · exact .stay rfl
    · exact s.raise_effect (by decide) 5

theorem State.clsymLoop_effect (s : State) : s.watched.Effect s.clsymLoop := by
  simp only [State.clsymLoop]
  split
  · exact .stay rfl
  · split
    · exact .stay rfl
    · exact s.raise_effect (by decide) 7

theorem State.cmLoop_effect (s : State) : s.watched.Effect s.cmLoop := by
  simp only [State.cmLoop]
  split <;> exact .stay rfl

theorem State.tick_effect (c : Cat) (s : State) : s.watched.Effect (s.tick c) := by
  simp only [State.tick]
  split_ifs <;> exact .stay rfl

theorem State.cmdHeaderEnd_effect (s : State) : s.watched.Effect s.cmdHeaderEnd := by
  simp only [State.cmdHeaderEnd]
  split
  · exact State.raise_effect (by decide) 2 _
  · exact State.goto_effect (by decide) _

theorem State.pushDistance_watched (s : State) : s.pushDistance.watched = s.watched := by
  simp only [State.pushDistance]
  split <;> rfl

theorem State.classify_effect (s : State) : s.watched.Effect s.classify := by
  simp only [State.classify]
  split
  · split
    · exact State.raise_effect (by decide) 3 _
    · refine .goto .cmdCopyWindow (by decide) rfl ?_
      exact congrArg (fun w : Watched => { w with st := .cmdCopyWindow }) (State.pushDistance_watched _)
  · exact .stay rfl

theorem State.copyDone_effect (s : State) : s.watched.Effect s.copyDone := by
  simp only [State.copyDone]
  split
  · exact State.goto_effect (by decide) _
  · exact .stay rfl

theorem State.dictCheck_effect (s : State) : s.watched.Effect s.dictCheck := by
  simp only [State.dictCheck]
  split
  · exact s.raise_effect (by decide) 4
  · exact s.goto_effect (by decide)

/-- The effect of every statement of a visit; those left to the last case write none of the items. -/
theorem runAct_effect (m : Act) (s : State) : Answers s.watched.Effect (runAct m s) := by
  cases m with
  | toDistparams | toCtxmodes | toCmapL | toCmdBegin | toFinished | cmEndL | cmEndD => exact State.goto_effect (by decide) _
  | endLen => exact s.endLen_effect
  | skipStored => exact s.skipStored_effect
  | rawDone => exact s.rawDone_effect
  | store r => exact s.storeBuilt_effect r
  | simpleCheck => exact s.simpleCheck_effect
  | clclLoop => exact s.clclLoop_effect
  | clsymLoop => exact s.clsymLoop_effect
  | cmLoop => exact s.cmLoop_effect
  | tick c => exact s.tick_effect c
  | cmdHeaderEnd => exact s.cmdHeaderEnd_effect
  | resolve => exact s.resolveCode_effect _
  | classify => exact s.classify_effect
  | copyDone => exact s.copyDone_effect
  | dictCheck => exact s.dictCheck_effect
  | _ => exact .stay rfl

/-! ## The instructions that branch -/

theorem State.queryUnknown_effect (s : State) : s.watched.Effect s.queryUnknown := s.raise_effect (by decide) 0

theorem execIslast_effect (v : Bool) (s : State) : Answers s.watched.Effect (execIslast v s) := by
  simp only [execIslast]
  split
  · split
    · split
      · exact .stay rfl
      · exact s.queryUnknown_effect
    · exact .stay rfl
  · exact .stay rfl

theorem execIsempty_effect (v : Bool) (s : State) : Answers s.watched.Effect (execIsempty v s) := by
  simp only [execIsempty]
  split
  · split
    · split
      · exact s.queryReturn_effect _
      · exact s.queryUnknown_effect
    · split
      · exact s.queryReturn_effect _
      · exact .stay rfl
  · split
    · exact s.goto_effect (by decide)
    · exact .stay rfl

theorem execIsuncompressed_effect (v : Bool) (s : State) : Answers s.watched.Effect (execIsuncompressed v s) := by
  simp only [execIsuncompressed]
  split
  · split
    · exact .stay rfl
    · exact s.queryUnknown_effect
  · exact State.headerBranch_effect _

theorem execNtrees_effect (v : Nat) (s : State) : Answers s.watched.Effect (execNtrees v s) := by
  simp only [execNtrees]
  split <;> exact .stay rfl

theorem execRleflag_effect (v : Bool) (s : State) : Answers s.watched.Effect (execRleflag v s) := by
  simp only [execRleflag]
  split <;> exact .stay rfl

theorem execCmrun_effect (k x : Nat) (s : State) : Answers s.watched.Effect (execCmrun k x s) := by
  simp only [execCmrun]
  split
  · exact s.raise_effect (by decide) 8
  · exact .stay rfl

theorem execImtf_effect (v : Bool) (s : State) : Answers s.watched.Effect (execImtf v s) := by
  simp only [execImtf]
  split <;> exact .stay rfl

theorem execBrFill_effect (s : State) : Answers s.watched.Effect (execBrFill s) := by
  simp only [execBrFill]
  split
  · exact .read s.br.fill s.br.reads_fill rfl
  · split
    · exact s.raise_effect (by decide) 0
    · exact .stay rfl

theorem execBrPeek_effect (n : Nat) (s : State) : Answers s.watched.Effect (execBrPeek n s) := by
  simp only [execBrPeek]
  split
  · exact .stay rfl
  · exact .stay rfl
  · exact s.raise_effect (by decide) 0

theorem execHtBuild_effect (src : LenSrc) (a r : Nat) (s : State) : Answers s.watched.Effect (execHtBuild src a r s) := by
  simp only [execHtBuild]
  split
  · exact .stay rfl
  · exact s.raise_effect (by decide) _

theorem execHdSym_effect (r : TableRef) (s : State) : Answers s.watched.Effect (execHdSym r s) := by
  simp only [execHdSym]
  split
  · trivial
  · split
    · trivial
    · next h => exact State.onTaken_effect _ (State.returnPeek_watched _) (State.readSym_from h)

theorem execRbGet_effect (d : Nat) (s : State) : Answers s.watched.Effect (execRbGet d s) := by
  simp only [execRbGet]
  split
  · exact .stay rfl
  · trivial

theorem execRbCopy_effect (d n : Nat) (s : State) : Answers s.watched.Effect (execRbCopy d n s) := by
  cases n with
  | zero => exact .stay rfl
  | succ m =>
    simp only [execRbCopy]
    split
    · exact s.rbPut_effect _ _
    · trivial

theorem execSdTransform_effect (word : List Byte) (t : Nat) (s : State) :
    Answers s.watched.Effect (execSdTransform word t s) := by
  simp only [execSdTransform, State.sdTransform]
  split
  · exact .stay rfl
  · trivial

theorem execCdUncompressedCopy_effect (s : State) : Answers s.watched.Effect (execCdUncompressedCopy s) := by
  simp only [execCdUncompressedCopy]
  split <;> exact .stay rfl

theorem execCdCmdLiteral_effect (s : State) : Answers s.watched.Effect (execCdCmdLiteral s) := by
  simp only [execCdCmdLiteral]
  split
  · split
    · exact s.goto_effect (by decide)
    · exact s.goto_effect (by decide)
  · exact .stay rfl

theorem execCdCmdDistance_effect (s : State) : Answers s.watched.Effect (execCdCmdDistance s) := by
  simp only [execCdCmdDistance]
  split <;> exact .stay rfl

theorem execCdCmdCopyWindow_effect (s : State) : Answers s.watched.Effect (execCdCmdCopyWindow s) := by
  simp only [execCdCmdCopyWindow]
  split
  · exact s.rbPut_effect _ _
  · trivial

theorem execCdCmdCopyDict_effect (s : State) : Answers s.watched.Effect (execCdCmdCopyDict s) := by
  simp only [execCdCmdCopyDict]
  split
  · exact s.goto_effect (by decide)
  · split
    · exact s.rbPut_effect _ _
    · trivial

theorem execCdCmdEnd_effect (s : State) : Answers s.watched.Effect (execCdCmdEnd s) := by
  simp only [execCdCmdEnd]
  split
  · exact s.goto_effect (by decide)
  · exact s.goto_effect (by decide)

theorem execCdMbDone_effect (s : State) : Answers s.watched.Effect (execCdMbDone s) := by
  simp only [execCdMbDone]
  split
  · exact s.goto_effect (by decide)
  · exact s.goto_effect (by decide)

/-- The effect of every instruction; those left to the last case write none of the items. -/
theorem exec_effect (i : Instr) (s : State) : Answers s.watched.Effect (exec i s) := by
  cases i with
  | islast v => exact execIslast_effect v s
  | isempty v => exact execIsempty_effect v s
  | isuncompressed v => exact execIsuncompressed_effect v s
  | rawbyte b | literal b | rbPut b => exact s.rbPut_effect b _
  | ntrees v => exact execNtrees_effect v s
  | rleflag v => exact execRleflag_effect v s
  | cmsymZero | cmsymTree k => exact s.putEntry_effect _
  | cmrun k x => exact execCmrun_effect k x s
  | imtf v => exact execImtf_effect v s
  | clrepExtra16 x | clrepExtra17 x => exact s.putRepeat_effect _ x
  | distsymShort0 | distsymShort1 | distsymShort2 | distsymShort3 | distsymShort4 | distsymShort5 | distsymShort6
  | distsymShort7 | distsymShort8 | distsymShort9 | distsymShort10 | distsymShort11 | distsymShort12 | distsymShort13
  | distsymShort14 | distsymShort15 | distsymDirect c | distExtra nb x => exact s.resolveCode_effect _
  | brFill => exact execBrFill_effect s
  | brPeek n => exact execBrPeek_effect n s
  | brDrop n | brAlign => exact State.onTaken_effect _ (f := id) (fun _ => rfl) (BitReader.take_from _ _ _)
  | brRead n | brByte => exact State.onTaken_effect _ (State.returnPeek_watched _) (BitReader.take_from _ _ _)
  | htBuild src a r => exact execHtBuild_effect src a r s
  | hdSym r => exact execHdSym_effect r s
  | rbGet d => exact execRbGet_effect d s
  | rbCopy d n => exact execRbCopy_effect d n s
  | rbFlush => exact s.rbFlush_effect
  | sdLookup len wordId => exact s.sdLookup_effect len wordId
  | sdTransform word t => exact execSdTransform_effect word t s
  | opStart | ctrlStart => exact .of_eq_or_fresh s.start_fresh
  | opAbort | ctrlAbort => exact .fresh s.sessionReset_fresh
  | opSizeq | ctrlSizeq => exact .of_eq_or_fresh s.sizeq_fresh
  | cdMbBegin => exact .goto .mbHeader (by decide) rfl rfl
  | cdUncompressedCopy => exact execCdUncompressedCopy_effect s
  | cdCmdLiteral => exact execCdCmdLiteral_effect s
  | cdCmdDistance => exact execCdCmdDistance_effect s
  | cdCmdCopyWindow => exact execCdCmdCopyWindow_effect s
  | cdCmdCopyDict => exact execCdCmdCopyDict_effect s
  | cdCmdEnd => exact execCdCmdEnd_effect s
  | cdMbDone => exact execCdMbDone_effect s
  | _ => exact .stay rfl

end Sys2Proof.Machine
end

section
/-! PROOF. The invariant over a step of any agent. DEC runs an instruction or a statement only in a session and with no chunk on
offer; there every effect keeps the invariant, and without a session a turn of DEC changes nothing. -/

namespace Sys2Proof.Machine

/-- The invariant of `t`, from the items that it speaks of. -/
theorem State.inv_of_watched {t : State} {w : Watched} (h : t.watched = w) (hcur : w.br.CursorOk) (hreg : w.br.RegisterOk)
    (hmem : Mem.wf w.mem = true) (herr : w.st = .error ↔ w.err.kind ≠ .none)
    (hrest : w.st.noSession = true → t.todo = [] ∧ w.snk.offer = none) : t.Inv := by
  subst h
  exact ⟨hcur, hreg, hmem, herr, hrest⟩

theorem State.Inv.cells {s : State} : s.Inv → Mem.wf s.rb.mem = true
  | ⟨_, _, hmem, _, _⟩ => hmem

theorem State.Inv.rest {s : State} : s.Inv → s.RestOk
  | ⟨_, _, _, _, hrest⟩ => hrest

/-- The items meet the invariant, a session runs, and no chunk is on offer. -/
structure Watched.Live (w : Watched) : Prop where
  cursor   : w.br.CursorOk
  register : w.br.RegisterOk
  cells    : Mem.wf w.mem = true
  session  : w.st.noSession = false
  noErr    : w.err.kind = .none
  noOffer  : w.snk.offer = none

theorem St.ne_error_of_session {x : St} (h : x.noSession = false) : x ≠ .error := by
  rintro rfl
  cases h

/-- In a session, with no chunk on offer, the invariant says that the items are live. -/
theorem State.Inv.live {s : State} (h : s.Inv) (hs : s.st.noSession = false) (ho : s.snk.offer = none) : s.watched.Live := by
  obtain ⟨hcur, hreg, hmem, herr, -⟩ := h
  have hkind : s.err.kind = .none := by
    by_contra hk
    exact St.ne_error_of_session hs (herr.2 hk)
  exact ⟨hcur, hreg, hmem, hs, hkind, ho⟩

theorem Watched.Live.read {w : Watched} {b : BitReader} (hw : w.Live) (hb : w.br.Reads b) : ({ w with br := b } : Watched).Live :=
  { hw with cursor := hb.cursor hw.cursor, register := hb.register hw.register }

/-- While a session runs, nothing is asked of the agenda or the chunk on offer. -/
theorem rest_of_session {x : St} {p : Prop} (h : x.noSession = false) : x.noSession = true → p := by
  intro hx
  rw [h] at hx
  cases hx

theorem Watched.Live.errOk {w : Watched} (hw : w.Live) : w.st = .error ↔ w.err.kind ≠ .none :=
  iff_of_false (St.ne_error_of_session hw.session) (not_not_intro hw.noErr)

theorem Watched.Fresh.inv {w : Watched} {t : State} (h : w.Fresh t) (hmem : Mem.wf w.mem = true) : t.Inv := by
  obtain ⟨htodo, st, hst, ht⟩ := h
  exact State.inv_of_watched ht (Nat.le_refl 0) reset_registerOk hmem (iff_of_false hst (not_not_intro rfl))
    (fun _ => ⟨htodo, rfl⟩)

/-- R306: fault entry gives the invariant, whatever the session was doing. -/
theorem State.inv_of_raised {t : State} {w : Watched} {k : ErrKind} {sub : Nat} {b : BitReader} {out : List (List Byte)}
    (hcur : b.CursorOk) (hreg : b.RegisterOk) (hmem : Mem.wf w.mem = true) (hk : k ≠ .none) (htodo : t.todo = [])
    (h : t.watched = { st := .error, err := ⟨k, sub⟩, br := b, mem := w.mem, snk := ⟨none, out⟩ }) : t.Inv :=
  State.inv_of_watched h hcur hreg hmem (iff_of_true rfl hk) (fun _ => ⟨htodo, rfl⟩)

/-- From live items, every effect gives a state with the invariant. -/
theorem Watched.Live.inv_of_effect {w : Watched} {t : State} (hw : w.Live) (h : w.Effect t) : t.Inv := by
  cases h with
  | read b hb h =>
    have hl := hw.read hb
    exact State.inv_of_watched h hl.cursor hl.register hl.cells hl.errOk (rest_of_session hw.session)
  | goto st hst htodo h =>
    exact State.inv_of_watched h hw.cursor hw.register hw.cells (iff_of_false hst (not_not_intro hw.noErr))
      (fun _ => ⟨htodo, hw.noOffer⟩)
  | raised k sub b hb hk htodo h =>
    exact State.inv_of_raised (hb.cursor hw.cursor) (hb.register hw.register) hw.cells hk htodo h
  | put a v h =>
    exact State.inv_of_watched h hw.cursor hw.register (Mem.wf_memWrite a v hw.cells) hw.errOk (rest_of_session hw.session)
  | push chunk h =>
    exact State.inv_of_watched h hw.cursor hw.register hw.cells hw.errOk (rest_of_session hw.session)
  | fresh h => exact h.inv hw.cells

/-! ## A turn of DEC -/

/-- R279, R306: without a session, and with nothing left to do, a turn of DEC changes nothing. -/
theorem decTurn_of_noSession {s : State} (h : s.RestOk) (hs : s.st.noSession = true) : decTurn s = .next s := by
  obtain ⟨htodo, hoffer⟩ := h hs
  have hvisit : exec (stateInstr s.st) s = .next s := by
    cases hst : s.st with
    | idle | finished | error => rfl
    | _ =>
      rw [hst] at hs
      cases hs
  simp only [decTurn, State.heldOnOutput, hoffer, Option.isSome_none, Bool.false_eq_true, if_false, htodo, hvisit]

theorem State.fillFor_reads (i : Instr) (s : State) : s.br.Reads (s.fillFor i).br := by
  simp only [State.fillFor]
  split
  · exact s.br.reads_fill
  · exact .refl _

theorem State.fillFor_watched (i : Instr) (s : State) : (s.fillFor i).watched = { s.watched with br := (s.fillFor i).br } := by
  simp only [State.fillFor]
  split <;> rfl

theorem exec_inv {s : State} (i : Instr) (h : s.watched.Live) : Answers State.Inv (exec i s) :=
  (exec_effect i s).mono fun _ => h.inv_of_effect

theorem runAct_inv {s : State} (m : Act) (h : s.watched.Live) : Answers State.Inv (runAct m s) :=
  (runAct_effect m s).mono fun _ => h.inv_of_effect

/-- A turn of DEC in a session, with no chunk on offer, whatever stands at the front of the agenda. -/
theorem decTurn_inv_of_live {s : State} (h : s.Inv) (hl : s.watched.Live) : Answers State.Inv (decTurn s) := by
  simp only [decTurn]
  split
  · exact h
  · split
    · exact exec_inv _ hl
    · next i rest _ =>
      split
      · exact h
      · refine exec_inv i ?_
        rw [State.fillFor_watched]
        exact hl.read (State.fillFor_reads i { s with todo := rest })
    · exact runAct_inv _ hl
    · next k rest _ =>
      have hfrom := s.fetch_from k
      generalize s.fetch k = fetched at hfrom ⊢
      cases fetched with
      | ok i b => exact exec_inv i (hl.read (b := b) hfrom)
      | hold => exact h
      | fail e b =>
        obtain ⟨hb, he⟩ := hfrom
        exact hl.inv_of_effect (.raised e 0 b hb he rfl rfl)
      | bad => trivial

theorem decTurn_inv {s : State} (h : s.Inv) : Answers State.Inv (decTurn s) := by
  cases hs : s.st.noSession with
  | true =>
    rw [decTurn_of_noSession h.rest hs]
    exact h
  | false =>
    cases ho : s.snk.offer with
    | none => exact decTurn_inv_of_live h (h.live hs ho)
    | some chunk =>
      have hheld : decTurn s = .next s := by
        simp only [decTurn, State.heldOnOutput, ho, Option.isSome_some, if_true]
      rw [hheld]
      exact h

/-! ## The source and the sink -/

/-- The invariant speaks of the bit reader in R13 and R14 alone. -/
theorem State.Inv.setBr {s : State} {b : BitReader} (h : s.Inv) (hcur : b.CursorOk) (hreg : b.RegisterOk) :
    State.Inv { s with br := b } := by
  obtain ⟨-, -, hmem, herr, hrest⟩ := h
  exact ⟨hcur, hreg, hmem, herr, hrest⟩

theorem BitReader.CursorOk.append {b : BitReader} (h : b.CursorOk) (l : List Byte) :
    ({ b with input := b.input ++ l } : BitReader).CursorOk := by
  simp only [BitReader.CursorOk, BitReader.avail, List.length_append] at h ⊢
  omega

/-- R300: an answer of the source, before the end of input. -/
theorem State.srcAnswer_inv {s : State} (a : SrcAns) (h : s.Inv) (he : s.br.eos = false) : (s.srcAnswer a).Inv := by
  have ⟨hcur, hreg, _⟩ := h
  cases a with
  | bytes l =>
    cases l with
    | nil => exact h.setBr hcur hreg.setEos
    | cons x l => exact h.setBr (hcur.append _) (hreg.append he _)
  | notYet => exact h
  | eoi => exact h.setBr hcur hreg.setEos
  | error => exact h.setBr hcur hreg.setSrcErr

theorem srcTurn_inv {s : State} (h : s.Inv) : Answers State.Inv (srcTurn s) := by
  simp only [srcTurn]
  split
  · next henabled =>
    simp only [State.srcEnabled, Bool.and_eq_true, Bool.not_eq_true'] at henabled
    obtain ⟨⟨-, he⟩, -⟩ := henabled
    split
    · exact h
    · next a rest _ =>
      have henv : State.Inv { s with env := { s.env with src := rest } } := h
      exact State.srcAnswer_inv a henv he
  · exact h

theorem State.Inv.raise {s : State} {k : ErrKind} (h : s.Inv) (hk : k ≠ .none) (sub : Nat) : (s.raise k sub).Inv := by
  obtain ⟨hcur, hreg, hmem, -, -⟩ := h
  exact State.inv_of_raised (w := s.watched) hcur hreg hmem hk rfl rfl

theorem State.Inv.accept {s : State} (h : s.Inv) (chunk : List Byte) : (s.accept chunk).Inv := by
  obtain ⟨hcur, hreg, hmem, herr, hrest⟩ := h
  exact ⟨hcur, hreg, hmem, herr, fun hs => ⟨(hrest hs).1, rfl⟩⟩

theorem State.snkAnswer_inv {s : State} (a : SnkAns) (chunk : List Byte) (h : s.Inv) : (s.snkAnswer a chunk).Inv := by
  cases a with
  | accept => exact h.accept chunk
  | busy => exact h
  | short k =>
    simp only [State.snkAnswer]
    split
    · exact h.raise (by decide) 0
    · exact h.accept chunk
  | fail => exact h.raise (by decide) 1

theorem snkTurn_inv {s : State} (h : s.Inv) : Answers State.Inv (snkTurn s) := by
  simp only [snkTurn]
  split
  · exact h
  · next chunk _ =>
    split
    · exact h
    · next a rest _ =>
      have henv : State.Inv { s with env := { s.env with snk := rest } } := h
      exact State.snkAnswer_inv a chunk henv

/-! ## The host -/

theorem State.Inv.of_eq_or_fresh {s t : State} (hs : s.Inv) (h : t = s ∨ s.watched.Fresh t) : t.Inv := by
  obtain rfl | hfresh := h
  · exact hs
  · exact hfresh.inv hs.cells

theorem State.Inv.writeWbits {s : State} (h : s.Inv) (v : BitVec 5) : (s.writeWbits v).Inv := by
  simp only [State.writeWbits]
  split <;> exact h

/-- R26: a write of `CTRL`, in a session or not. -/
theorem writeCtrl_inv {s : State} (v : Nat) (h : s.Inv) : Answers State.Inv (writeCtrl v s) := by
  by_cases h1 : v = 1
  · subst h1
    exact h.of_eq_or_fresh s.start_fresh
  by_cases h2 : v = 2
  · subst h2
    exact h.of_eq_or_fresh (.inr s.sessionReset_fresh)
  by_cases h3 : v = 3
  · subst h3
    exact h.of_eq_or_fresh s.sizeq_fresh
  rw [writeCtrl_ignored s h1 h2 h3]
  exact h

theorem hostTurn_inv {s : State} (h : s.Inv) : Answers State.Inv (hostTurn s) := by
  match hh : s.env.host with
  | [] =>
    rw [hostTurn_nil hh]
    exact h
  | .setWbits v :: rest =>
    have henv : (s.setHost rest).Inv := h
    rw [hostTurn_setWbits hh]
    exact henv.writeWbits v
  | .ctrl v :: rest =>
    have henv : (s.setHost rest).Inv := h
    rw [hostTurn_ctrl hh]
    exact writeCtrl_inv v henv
  | .reset :: rest =>
    have hfresh : (s.setHost rest).watched.Fresh (s.setHost rest).hardReset := State.sessionReset_fresh _
    rw [hostTurn_reset hh]
    exact hfresh.inv h.cells

/-! ## One step -/

theorem agentTurn_inv (a : Agent) {s : State} (h : s.Inv) : Answers State.Inv (agentTurn a s) := by
  cases a with
  | dec => exact decTurn_inv h
  | src => exact srcTurn_inv h
  | snk => exact snkTurn_inv h
  | host => exact hostTurn_inv h

/-- Settles O57: a step is a turn of some agent (`step_eq_agentTurn`), and every agent's turn keeps the invariant. -/
theorem invariantKept : Obligations.InvariantKept := by
  intro s t h hstep
  obtain ⟨a, ts, hturn⟩ := step_eq_agentTurn s
  have hs : (s.setTurns ts).Inv := h
  exact (agentTurn_inv a hs).of_next (hturn.symm.trans hstep)

end Sys2Proof.Machine
end

section
/-! PROOF. The input over a step of any agent (R76, R13), and each answer of the source (R300). Only the source appends to the
input; DEC reads on in it; session control and the reset of the host start the bit reader afresh. -/

namespace Sys2Proof.Machine

/-! ## Later bit readers of the same session -/

theorem BitReader.Extends.refl (b : BitReader) : b.Extends b :=
  ⟨List.prefix_rfl, Nat.le_refl _, fun h => ⟨h, rfl⟩, fun h => ⟨h, rfl⟩⟩

theorem BitReader.Extends.trans {b c d : BitReader} (hbc : b.Extends c) (hcd : c.Extends d) : b.Extends d := by
  obtain ⟨hin, hcur, heos, herr⟩ := hbc
  obtain ⟨hin', hcur', heos', herr'⟩ := hcd
  refine ⟨hin.trans hin', hcur.trans hcur', fun h => ?_, fun h => ?_⟩
  · obtain ⟨hc, heq⟩ := heos h
    obtain ⟨hd, heq'⟩ := heos' hc
    exact ⟨hd, heq'.trans heq⟩
  · obtain ⟨hc, heq⟩ := herr h
    obtain ⟨hd, heq'⟩ := herr' hc
    exact ⟨hd, heq'.trans heq⟩

/-- Reads and fills leave the input and only move the cursor on. -/
theorem BitReader.Reads.toExtends {b c : BitReader} (h : b.Reads c) : b.Extends c :=
  ⟨h.input ▸ List.prefix_rfl, h.cur, fun he => ⟨h.eos.trans he, h.input⟩, fun he => ⟨h.srcErr.trans he, h.input⟩⟩

/-- What a step from a state with the bit reader `b` to `t` may do to it: start it afresh, or read on and append. -/
def BitReader.InputStep (b : BitReader) (t : State) : Prop := t.br = State.reset.br ∨ b.Extends t.br

theorem BitReader.InputStep.of_reads {b c : BitReader} {t : State} (hb : b.Reads c) (h : t.br = c) : b.InputStep t :=
  .inr (h ▸ hb.toExtends)

theorem BitReader.InputStep.of_eq {b : BitReader} {t : State} (h : t.br = b) : b.InputStep t := .inr (h ▸ .refl _)

theorem BitReader.InputStep.of_extends {b c : BitReader} {t : State} (hbc : b.Extends c) (h : c.InputStep t) :
    b.InputStep t := h.imp_right hbc.trans

/-! ## A turn of DEC -/

theorem Watched.Fresh.br {w : Watched} {t : State} (h : w.Fresh t) : t.br = State.reset.br := by
  obtain ⟨-, st, -, ht⟩ := h
  exact congrArg Watched.br ht

/-- Every effect of an instruction or a statement on the bit reader is one of reads, or a start afresh. -/
theorem Watched.Effect.inputStep {w : Watched} {t : State} (h : w.Effect t) : w.br.InputStep t := by
  cases h with
  | read b hb h => exact .of_reads hb (congrArg Watched.br h)
  | goto st _ _ h => exact .of_eq (congrArg Watched.br h)
  | raised k sub b hb _ _ h => exact .of_reads hb (congrArg Watched.br h)
  | put a v h => exact .of_eq (congrArg Watched.br h)
  | push chunk h => exact .of_eq (congrArg Watched.br h)
  | fresh h => exact .inl h.br

theorem exec_inputStep (i : Instr) (s : State) : Answers s.br.InputStep (exec i s) :=
  (exec_effect i s).mono fun _ => Watched.Effect.inputStep

theorem runAct_inputStep (m : Act) (s : State) : Answers s.br.InputStep (runAct m s) :=
  (runAct_effect m s).mono fun _ => Watched.Effect.inputStep

/-- An instruction that runs after reads that started at `b`. -/
theorem exec_inputStep_of_reads {b : BitReader} (i : Instr) {s : State} (h : b.Reads s.br) :
    Answers b.InputStep (exec i s) :=
  (exec_inputStep i s).mono fun _ => .of_extends h.toExtends

theorem decTurn_inputStep (s : State) : Answers s.br.InputStep (decTurn s) := by
  simp only [decTurn]
  split
  · exact .of_eq rfl
  · split
    · exact exec_inputStep _ s
    · next i rest _ =>
      split
      · exact .of_eq rfl
      · exact exec_inputStep_of_reads i (State.fillFor_reads i { s with todo := rest })
    · next m rest _ => exact runAct_inputStep m { s with todo := rest }
    · next k rest _ =>
      have hfrom := s.fetch_from k
      generalize s.fetch k = fetched at hfrom ⊢
      cases fetched with
      | ok i b => exact exec_inputStep_of_reads i (s := { s with br := b, todo := rest }) hfrom
      | hold => exact .of_eq rfl
      | fail e b => exact .of_reads hfrom.1 rfl
      | bad => trivial

/-! ## The source -/

/-- The pending answers of the source become `rest`. -/
def State.setSrc (rest : List SrcAns) (s : State) : State := { s with env := { s.env with src := rest } }

theorem State.srcEnabled_iff (s : State) :
    s.srcEnabled = true ↔ s.st.noSession = false ∧ s.br.eos = false ∧ s.br.srcErr = false := by
  simp only [State.srcEnabled, Bool.and_eq_true, Bool.not_eq_true', and_assoc]

theorem srcTurn_of_answer {s : State} {a : SrcAns} {rest : List SrcAns} (hs : s.srcEnabled = true)
    (h : s.env.src = a :: rest) : srcTurn s = .next ((s.setSrc rest).srcAnswer a) := by
  simp only [srcTurn, hs, if_true, h, State.setSrc]

theorem srcTurn_of_not_enabled {s : State} (h : ¬ s.srcEnabled = true) : srcTurn s = .next s := if_neg h

theorem srcTurn_of_noAnswer {s : State} (h : s.env.src = []) : srcTurn s = .next s := by
  simp only [srcTurn, h, ite_self]

/-- R300: the source that may not step, or has no answer, does nothing. -/
theorem srcTurn_of_idle {s : State}
    (h : s.st.noSession = true ∨ s.br.eos = true ∨ s.br.srcErr = true ∨ s.env.src = []) : srcTurn s = .next s := by
  by_cases hs : s.srcEnabled = true
  · obtain ⟨hsession, he, herr⟩ := s.srcEnabled_iff.1 hs
    have hsrc : s.env.src = [] := by simpa [hsession, he, herr] using h
    exact srcTurn_of_noAnswer hsrc
  · exact srcTurn_of_not_enabled hs

theorem State.srcAnswer_bytes {l : List Byte} (h : l ≠ []) (s : State) :
    s.srcAnswer (.bytes l) = { s with br := { s.br with input := s.br.input ++ l } } := by
  cases l with
  | nil => exact absurd rfl h
  | cons x l => rfl

/-- A delivery appends to the input. -/
theorem BitReader.extends_append {b : BitReader} (he : b.eos = false) (herr : b.srcErr = false) (l : List Byte) :
    b.Extends { b with input := b.input ++ l } :=
  ⟨List.prefix_append _ _, Nat.le_refl _, fun h => absurd (he.symm.trans h) Bool.false_ne_true,
    fun h => absurd (herr.symm.trans h) Bool.false_ne_true⟩

theorem BitReader.extends_setEos (b : BitReader) : b.Extends { b with eos := true } :=
  ⟨List.prefix_rfl, Nat.le_refl _, fun _ => ⟨rfl, rfl⟩, fun h => ⟨h, rfl⟩⟩

theorem BitReader.extends_setSrcErr (b : BitReader) : b.Extends { b with srcErr := true } :=
  ⟨List.prefix_rfl, Nat.le_refl _, fun h => ⟨h, rfl⟩, fun _ => ⟨rfl, rfl⟩⟩

/-- R300: an answer of the source, where neither the end of input nor a failure has been reported. -/
theorem State.srcAnswer_extends {s : State} (a : SrcAns) (he : s.br.eos = false) (herr : s.br.srcErr = false) :
    s.br.Extends (s.srcAnswer a).br := by
  cases a with
  | bytes l =>
    cases l with
    | nil => exact s.br.extends_setEos
    | cons x l => exact BitReader.extends_append he herr (x :: l)
  | notYet => exact .refl _
  | eoi => exact s.br.extends_setEos
  | error => exact s.br.extends_setSrcErr

theorem srcTurn_inputStep (s : State) : Answers s.br.InputStep (srcTurn s) := by
  by_cases hs : s.srcEnabled = true
  · obtain ⟨-, he, herr⟩ := s.srcEnabled_iff.1 hs
    match h : s.env.src with
    | [] =>
      rw [srcTurn_of_noAnswer h]
      exact .of_eq rfl
    | a :: rest =>
      rw [srcTurn_of_answer hs h]
      exact .inr (State.srcAnswer_extends (s := s.setSrc rest) a he herr)
  · rw [srcTurn_of_not_enabled hs]
    exact .of_eq rfl

/-! ## The sink and the host -/

theorem State.snkAnswer_br (a : SnkAns) (chunk : List Byte) (s : State) : (s.snkAnswer a chunk).br = s.br := by
  cases a with
  | accept => rfl
  | busy => rfl
  | short k =>
    simp only [State.snkAnswer]
    split <;> rfl
  | fail => rfl

theorem snkTurn_inputStep (s : State) : Answers s.br.InputStep (snkTurn s) := by
  simp only [snkTurn]
  split
  · exact .of_eq rfl
  · split
    · exact .of_eq rfl
    · exact .of_eq (State.snkAnswer_br _ _ _)

theorem State.writeWbits_br (v : BitVec 5) (s : State) : (s.writeWbits v).br = s.br := by
  simp only [State.writeWbits]
  split <;> rfl

theorem writeCtrl_inputStep (v : Nat) (s : State) : Answers s.br.InputStep (writeCtrl v s) := by
  simp only [writeCtrl]
  split
  · exact exec_inputStep _ s
  · exact .of_eq rfl

theorem hostTurn_inputStep (s : State) : Answers s.br.InputStep (hostTurn s) := by
  match h : s.env.host with
  | [] =>
    rw [hostTurn_nil h]
    exact .of_eq rfl
  | .setWbits v :: rest =>
    rw [hostTurn_setWbits h]
    exact .of_eq (State.writeWbits_br v _)
  | .ctrl v :: rest =>
    rw [hostTurn_ctrl h]
    exact writeCtrl_inputStep v (s.setHost rest)
  | .reset :: rest =>
    rw [hostTurn_reset h]
    exact .inl rfl

/-! ## One step -/

theorem agentTurn_inputStep (a : Agent) (s : State) : Answers s.br.InputStep (agentTurn a s) := by
  cases a with
  | dec => exact decTurn_inputStep s
  | src => exact srcTurn_inputStep s
  | snk => exact snkTurn_inputStep s
  | host => exact hostTurn_inputStep s

theorem step_inputStep {s t : State} (h : step s = .next t) : s.br.InputStep t := by
  obtain ⟨a, ts, hturn⟩ := step_eq_agentTurn s
  exact (agentTurn_inputStep a (s.setTurns ts)).of_next (hturn.symm.trans h)

/-- Settles O58: the step rule `step_inputStep`, and the equations of the source's turn, one per answer. -/
theorem inputOnlyGrows : Obligations.InputOnlyGrows := by
  refine ⟨fun s t => step_inputStep, ?_, ?_⟩
  · rintro s u ts rest a hturns hsrc hsession he herr rfl
    have henabled : (s.setTurns ts).srcEnabled = true := (s.setTurns ts).srcEnabled_iff.2 ⟨hsession, he, herr⟩
    have hstep : step s = .next (((s.setTurns ts).setSrc rest).srcAnswer a) :=
      (step_of_turn hturns).trans (srcTurn_of_answer henabled hsrc)
    refine ⟨?_, ?_, ?_, ?_, ?_⟩
    · rintro l rfl hl
      rw [hstep, State.srcAnswer_bytes hl]
      rfl
    · rintro rfl
      exact hstep
    · rintro rfl
      exact hstep
    · rintro rfl
      exact hstep
    · rintro rfl
      exact hstep
  · intro s ts hturns hidle
    exact (step_of_turn hturns).trans (srcTurn_of_idle (s := s.setTurns ts) hidle)

end Sys2Proof.Machine
end

section
/-! PROOF. The chunks that the sink has accepted, over a step of any agent (R75), and each answer of the sink (R302). Only an
acceptance appends to them. -/

namespace Sys2Proof.Machine

/-- The chunks that the sink has accepted. -/
def State.accepted (s : State) : List (List Byte) := s.snk.out

/-- What a step from `s` to `t` may do to the chunks that the sink has accepted: nothing, or append the chunk on offer. -/
def State.SinkStep (s t : State) : Prop :=
  t.accepted = s.accepted ∨ ∃ chunk, s.snk.offer = some chunk ∧ t.accepted = s.accepted ++ [chunk]

theorem Keeps.accepted_of_outside {s : State} {r : Result} (h : Keeps State.outside s.outside r) :
    Keeps State.accepted s.accepted r := by
  cases r with
  | next t => exact congrArg Outside.accepted h
  | fault f => trivial
  | refused f => trivial

theorem Keeps.sinkStep {s : State} {r : Result} (h : Keeps State.accepted s.accepted r) : Answers s.SinkStep r := by
  cases r with
  | next t => exact .inl h
  | fault f => trivial
  | refused f => trivial

/-! ## The source and the host -/

theorem State.srcAnswer_accepted (a : SrcAns) (s : State) : (s.srcAnswer a).accepted = s.accepted := by
  cases a with
  | bytes l => cases l <;> rfl
  | notYet => rfl
  | eoi => rfl
  | error => rfl

theorem srcTurn_keeps_accepted (s : State) : Keeps State.accepted s.accepted (srcTurn s) := by
  simp only [srcTurn]
  split
  · split
    · rfl
    · exact State.srcAnswer_accepted _ _
  · rfl

theorem State.writeWbits_accepted (v : BitVec 5) (s : State) : (s.writeWbits v).accepted = s.accepted := by
  simp only [State.writeWbits]
  split <;> rfl

theorem writeCtrl_keeps_accepted (v : Nat) (s : State) : Keeps State.accepted s.accepted (writeCtrl v s) := by
  simp only [writeCtrl]
  split
  · exact (exec_keeps _ s).accepted_of_outside
  · rfl

theorem hostTurn_keeps_accepted (s : State) : Keeps State.accepted s.accepted (hostTurn s) := by
  match h : s.env.host with
  | [] =>
    rw [hostTurn_nil h]
    rfl
  | .setWbits v :: rest =>
    rw [hostTurn_setWbits h]
    exact State.writeWbits_accepted v _
  | .ctrl v :: rest =>
    rw [hostTurn_ctrl h]
    exact writeCtrl_keeps_accepted v (s.setHost rest)
  | .reset :: rest =>
    rw [hostTurn_reset h]
    rfl

/-! ## The sink -/

/-- The pending answers of the sink become `rest`. -/
def State.setSnk (rest : List SnkAns) (s : State) : State := { s with env := { s.env with snk := rest } }

theorem snkTurn_of_answer {s : State} {chunk : List Byte} {a : SnkAns} {rest : List SnkAns}
    (hoffer : s.snk.offer = some chunk) (h : s.env.snk = a :: rest) :
    snkTurn s = .next ((s.setSnk rest).snkAnswer a chunk) := by
  simp only [snkTurn, hoffer, h, State.setSnk]

theorem snkTurn_of_noOffer {s : State} (h : s.snk.offer = none) : snkTurn s = .next s := by
  simp only [snkTurn, h]

theorem snkTurn_of_noAnswer {s : State} (h : s.env.snk = []) : snkTurn s = .next s := by
  simp only [snkTurn, h]
  split <;> rfl

/-- R302: the sink with nothing on offer, or without an answer, does nothing. -/
theorem snkTurn_of_idle {s : State} (h : s.snk.offer = none ∨ s.env.snk = []) : snkTurn s = .next s :=
  h.elim snkTurn_of_noOffer snkTurn_of_noAnswer

theorem State.snkAnswer_short_lt {k : Nat} {chunk : List Byte} (h : k < chunk.length) (s : State) :
    s.snkAnswer (.short k) chunk = s.raise .sinkRejectedOutput 0 := if_pos h

theorem State.snkAnswer_short_ge {k : Nat} {chunk : List Byte} (h : chunk.length ≤ k) (s : State) :
    s.snkAnswer (.short k) chunk = s.accept chunk := if_neg (Nat.not_lt.2 h)

/-- R302: an answer of the sink to the chunk on offer. -/
theorem State.snkAnswer_sinkStep {s : State} (a : SnkAns) {chunk : List Byte} (hoffer : s.snk.offer = some chunk) :
    s.SinkStep (s.snkAnswer a chunk) := by
  have haccept : s.SinkStep (s.accept chunk) := .inr ⟨chunk, hoffer, rfl⟩
  cases a with
  | accept => exact haccept
  | busy => exact .inl rfl
  | short k =>
    by_cases h : k < chunk.length
    · rw [State.snkAnswer_short_lt h]
      exact .inl rfl
    · rw [State.snkAnswer_short_ge (Nat.not_lt.1 h)]
      exact haccept
  | fail => exact .inl rfl

theorem snkTurn_sinkStep (s : State) : Answers s.SinkStep (snkTurn s) := by
  match hoffer : s.snk.offer, h : s.env.snk with
  | none, _ =>
    rw [snkTurn_of_noOffer hoffer]
    exact .inl rfl
  | some chunk, [] =>
    rw [snkTurn_of_noAnswer h]
    exact .inl rfl
  | some chunk, a :: rest =>
    rw [snkTurn_of_answer hoffer h]
    exact State.snkAnswer_sinkStep (s := s.setSnk rest) a hoffer

/-! ## One step -/

theorem agentTurn_sinkStep (a : Agent) (s : State) : Answers s.SinkStep (agentTurn a s) := by
  cases a with
  | dec => exact (decTurn_keeps s).accepted_of_outside.sinkStep
  | src => exact (srcTurn_keeps_accepted s).sinkStep
  | snk => exact snkTurn_sinkStep s
  | host => exact (hostTurn_keeps_accepted s).sinkStep

theorem step_sinkStep {s t : State} (h : step s = .next t) : s.SinkStep t := by
  obtain ⟨a, ts, hturn⟩ := step_eq_agentTurn s
  exact (agentTurn_sinkStep a (s.setTurns ts)).of_next (hturn.symm.trans h)

/-- Settles O59: the step rule `step_sinkStep`, and the equations of the sink's turn, one per answer. -/
theorem sinkOnlyGrows : Obligations.SinkOnlyGrows := by
  refine ⟨fun s t => step_sinkStep, ?_, ?_⟩
  · rintro s u ts rest a chunk hturns hsnk hoffer rfl
    have hstep : step s = .next (((s.setTurns ts).setSnk rest).snkAnswer a chunk) :=
      (step_of_turn hturns).trans (snkTurn_of_answer (s := s.setTurns ts) hoffer hsnk)
    refine ⟨?_, ?_, ?_, ?_, ?_⟩
    · rintro rfl
      exact hstep
    · rintro rfl
      exact hstep
    · rintro k rfl hk
      rw [hstep, State.snkAnswer_short_lt hk]
      rfl
    · rintro k rfl hk
      rw [hstep, State.snkAnswer_short_ge hk]
      rfl
    · rintro rfl
      exact hstep
  · intro s ts hturns hidle
    exact (step_of_turn hturns).trans (snkTurn_of_idle (s := s.setTurns ts) hidle)

end Sys2Proof.Machine
end


section
/-! PROOF. Spellings: the bits that the encoder writes for a field, for a codeword (R166, R167) and for a `VARLEN8` pattern (R104)
fit their length and, followed by any bits, are read back and consumed exactly. -/

namespace Sys2Proof

/-- The pair `p` of stream bits and their number spells `i` for the decoder `d`: the bits fit their number and, whatever bits
follow, `d` answers `i` and consumes exactly them. -/
structure Spells (d : Nat → Decoded) (i : Instr) (p : Nat × Nat) : Prop where
  fits : p.1 < 2 ^ p.2
  decodes : ∀ rest, ∃ fs, d (p.1 + 2 ^ p.2 * rest) = some (i, fs) ∧ fieldBits fs = p.2

@[simp] theorem fieldBits_nil : fieldBits [] = 0 := rfl

@[simp] theorem fieldBits_cons (f : Field) (fs : List Field) : fieldBits (f :: fs) = f.drop + fieldBits fs := by
  simp [fieldBits]

@[simp] theorem fieldBits_append (fs gs : List Field) : fieldBits (fs ++ gs) = fieldBits fs + fieldBits gs := by
  simp [fieldBits]

/-! ## Fields (R91) -/

theorem encodeField_eq_some {n x : Nat} {p : Nat × Nat} (h : encodeField n x = some p) : x < 2 ^ n ∧ p = (x, n) := by
  simp only [encodeField] at h
  split at h
  · next hx => exact ⟨hx, (Option.some.inj h).symm⟩
  · cases h

/-- The low bits of a word that starts with the `n`-bit value `x`. -/
theorem add_pow_mul_mod {n x : Nat} (h : x < 2 ^ n) (rest : Nat) : (x + 2 ^ n * rest) % 2 ^ n = x := by
  rw [Nat.add_mul_mod_self_left, Nat.mod_eq_of_lt h]

/-- The bits of a word after the `n`-bit value that it starts with. -/
theorem add_pow_mul_div {n x : Nat} (h : x < 2 ^ n) (rest : Nat) : (x + 2 ^ n * rest) / 2 ^ n = rest := by
  rw [Nat.add_mul_div_left _ _ (Nat.two_pow_pos n), Nat.div_eq_of_lt h, Nat.zero_add]

/-- A fixed field whose value names an instruction. -/
theorem spells_namedField {n x : Nat} {p : Nat × Nat} {g : Nat → Option Instr} {i : Instr}
    (h : encodeField n x = some p) (hg : g x = some i) :
    Spells (fun w => (g (w % 2 ^ n)).map fun j => (j, [⟨n, n⟩])) i p := by
  obtain ⟨hx, rfl⟩ := encodeField_eq_some h
  exact ⟨hx, fun rest => ⟨[⟨n, n⟩], by simp only [add_pow_mul_mod hx, hg, Option.map_some], rfl⟩⟩

theorem spells_fixedField {n x : Nat} {p : Nat × Nat} {f : Nat → Instr} (h : encodeField n x = some p) :
    Spells (fun w => fixedField n w f) (f x) p :=
  spells_namedField (g := fun v => some (f v)) h rfl

theorem spells_flagField {v : Bool} {p : Nat × Nat} {f : Bool → Instr} (h : encodeFlag v = some p) :
    Spells (fun w => flagField w f) (f v) p := by
  cases h
  refine ⟨by cases v <;> decide, fun rest => ⟨[⟨1, 1⟩], ?_, rfl⟩⟩
  cases v <;> simp [flagField, Nat.add_mul_mod_self_left]

/-! ## Codewords (R166, R167) -/

/-- A codeword stands in the root level, or in the sub-table of a redirect of it. -/
theorem encodeSym_cases {t : Table} {sym : Nat} {p : Nat × Nat} (h : encodeSym t sym = some p) :
    (∃ k bits : Nat, k < 2 ^ t.rootBits ∧ t.entries[k]? = some (.terminal bits sym) ∧ p = (k % 2 ^ bits, bits)) ∨
    (∃ k subBits base j bits : Nat, k < 2 ^ t.rootBits ∧ t.entries[k]? = some (.redirect subBits base) ∧ j < 2 ^ subBits ∧
      t.entries[base + j]? = some (.terminal bits sym) ∧
      p = (k + 2 ^ t.rootBits * (j % 2 ^ bits), t.rootBits + bits)) := by
  unfold encodeSym at h
  obtain ⟨k, hk, hroot⟩ := List.exists_of_findSome?_eq_some h
  rw [List.mem_range] at hk
  split at hroot
  · next bits s hentry =>
    split at hroot
    · next hs => exact .inl ⟨k, bits, hk, hs ▸ hentry, (Option.some.inj hroot).symm⟩
    · cases hroot
  · next subBits base hentry =>
    obtain ⟨j, hj, hsub⟩ := List.exists_of_findSome?_eq_some hroot
    rw [List.mem_range] at hj
    split at hsub
    · next bits s hleaf =>
      split at hsub
      · next hs => exact .inr ⟨k, subBits, base, j, bits, hk, hentry, hj, hs ▸ hleaf, (Option.some.inj hsub).symm⟩
      · cases hsub
    · cases hsub
  · cases hroot

theorem encodeSym_fits {t : Table} {sym : Nat} {p : Nat × Nat} (h : encodeSym t sym = some p) : p.1 < 2 ^ p.2 := by
  obtain ⟨k, bits, -, -, rfl⟩ | ⟨k, subBits, base, j, bits, hk, -, -, -, rfl⟩ := encodeSym_cases h
  · exact Nat.mod_lt _ (Nat.two_pow_pos bits)
  · have hj : j % 2 ^ bits < 2 ^ bits := Nat.mod_lt _ (Nat.two_pow_pos bits)
    calc k + 2 ^ t.rootBits * (j % 2 ^ bits) < 2 ^ t.rootBits * (j % 2 ^ bits + 1) := by rw [Nat.mul_add]; omega
      _ ≤ 2 ^ t.rootBits * 2 ^ bits := Nat.mul_le_mul_left _ hj
      _ = 2 ^ (t.rootBits + bits) := (Nat.pow_add 2 _ _).symm

theorem lookupSym_of_terminal {t : Table} {w bits sym : Nat} (h : t.entries[w % 2 ^ t.rootBits]? = some (.terminal bits sym)) :
    lookupSym t w = some (sym, [⟨t.rootBits, bits⟩]) := by
  simp only [lookupSym, h]

theorem lookupSym_of_redirect {t : Table} {w subBits base bits sym : Nat}
    (hroot : t.entries[w % 2 ^ t.rootBits]? = some (.redirect subBits base))
    (hleaf : t.entries[base + w / 2 ^ t.rootBits % 2 ^ subBits]? = some (.terminal bits sym)) :
    lookupSym t w = some (sym, [⟨t.rootBits + subBits, t.rootBits + bits⟩]) := by
  simp only [lookupSym, hroot, hleaf]

/-- The index of `width` bits that starts with the low `bits` bits of `k` agrees with `k` in them. -/
theorem index_mod {bits width : Nat} (h : bits ≤ width) (k rest : Nat) :
    (k % 2 ^ bits + 2 ^ bits * rest) % 2 ^ width % 2 ^ bits = k % 2 ^ bits := by
  rw [Nat.mod_mod_of_dvd _ (Nat.pow_dvd_pow 2 h), Nat.add_mul_mod_self_left, Nat.mod_mod]

/-- A codeword, followed by any bits, is looked up as its symbol: the replicated entries answer whatever the bits after it are. -/
theorem lookupSym_encodeSym {t : Table} (ht : t.Replicated) {sym : Nat} {p : Nat × Nat} (h : encodeSym t sym = some p)
    (rest : Nat) : ∃ fs, lookupSym t (p.1 + 2 ^ p.2 * rest) = some (sym, fs) ∧ fieldBits fs = p.2 := by
  obtain ⟨hrootRep, hsubRep⟩ := ht
  obtain ⟨k, bits, hk, hentry, rfl⟩ | ⟨k, subBits, base, j, bits, hk, hentry, hj, hleaf, rfl⟩ := encodeSym_cases h
  · obtain ⟨hbits, hrep⟩ := hrootRep k hk bits sym hentry
    exact ⟨_, lookupSym_of_terminal (hrep _ (Nat.mod_lt _ (Nat.two_pow_pos _)) (index_mod hbits k rest)), rfl⟩
  · obtain ⟨hbits, hrep⟩ := hsubRep k hk subBits base hentry j hj bits sym hleaf
    have hword : k + 2 ^ t.rootBits * (j % 2 ^ bits) + 2 ^ (t.rootBits + bits) * rest =
        k + 2 ^ t.rootBits * (j % 2 ^ bits + 2 ^ bits * rest) := by
      rw [Nat.pow_add]
      ring
    refine ⟨_, lookupSym_of_redirect (subBits := subBits) (base := base) (bits := bits) ?_ ?_, rfl⟩
    · rwa [hword, add_pow_mul_mod hk]
    · rw [hword, add_pow_mul_div hk]
      exact hrep _ (Nat.mod_lt _ (Nat.two_pow_pos _)) (index_mod hbits j rest)

theorem spells_symbolElem {t : Table} (ht : t.Replicated) {sym : Nat} {p : Nat × Nat} {f : Nat → Option Instr} {i : Instr}
    (h : encodeSym t sym = some p) (hf : f sym = some i) : Spells (fun w => symbolElem t w f) i p := by
  refine ⟨encodeSym_fits h, fun rest => ?_⟩
  obtain ⟨fs, hlookup, hbits⟩ := lookupSym_encodeSym ht h rest
  exact ⟨fs, by simp only [symbolElem, hlookup, hf], hbits⟩

theorem encodeExtra_eq_some {t : Table} {sym nb x : Nat} {p : Nat × Nat} (h : encodeExtra t sym nb x = some p) :
    ∃ q, encodeSym t sym = some q ∧ x < 2 ^ nb ∧ p = (q.1 + 2 ^ q.2 * x, q.2 + nb) := by
  simp only [encodeExtra] at h
  split at h
  · next v n hsym =>
    split at h
    · next hx => exact ⟨(v, n), hsym, hx, (Option.some.inj h).symm⟩
    · cases h
  · cases h

/-- R106: a codeword and the extra bits that its symbol asks for. -/
theorem spells_extraElem {t : Table} (ht : t.Replicated) {sym x : Nat} {p : Nat × Nat} {nb : Nat → Nat}
    {f : Nat → Nat → Option Instr} {i : Instr} (h : encodeExtra t sym (nb sym) x = some p) (hf : f sym x = some i) :
    Spells (fun w => extraElem t w nb f) i p := by
  obtain ⟨⟨v, n⟩, hsym, hx, rfl⟩ := encodeExtra_eq_some h
  have hv : v < 2 ^ n := encodeSym_fits hsym
  refine ⟨?_, fun rest => ?_⟩
  · calc v + 2 ^ n * x < 2 ^ n * (x + 1) := by rw [Nat.mul_add]; omega
      _ ≤ 2 ^ n * 2 ^ nb sym := Nat.mul_le_mul_left _ hx
      _ = 2 ^ (n + nb sym) := (Nat.pow_add 2 _ _).symm
  · have hword : v + 2 ^ n * x + 2 ^ (n + nb sym) * rest = v + 2 ^ n * (x + 2 ^ nb sym * rest) := by
      rw [Nat.pow_add]
      ring
    obtain ⟨fs, hlookup, hbits⟩ := lookupSym_encodeSym ht hsym (x + 2 ^ nb sym * rest)
    refine ⟨fs ++ [⟨nb sym, nb sym⟩], ?_, by simp [hbits]⟩
    simp only [extraElem, hword, hlookup, hbits, add_pow_mul_div hv, add_pow_mul_mod hx, hf]

/-! ## `VARLEN8` (R104) -/

theorem decodeVarlen8_zero {w : Nat} (h : w % 2 = 0) : decodeVarlen8 w = (.varlen8Zero, [⟨1, 1⟩]) := by
  simp only [decodeVarlen8, h, if_true]

theorem decodeVarlen8_one {w : Nat} (h : w % 16 = 1) : decodeVarlen8 w = (.varlen8One, [⟨1, 1⟩, ⟨3, 3⟩]) := by
  have hflag : w % 2 ≠ 0 := by omega
  have hn : w / 2 % 8 = 0 := by omega
  simp only [decodeVarlen8, hflag, hn, if_true, if_false]

theorem decodeVarlen8_n {w : Nat} (h : w % 2 = 1) (hn : w / 2 % 8 ≠ 0) :
    decodeVarlen8 w =
      (.varlen8N (w / 2 % 8) (w / 16 % 2 ^ (w / 2 % 8)), [⟨1, 1⟩, ⟨3, 3⟩, ⟨w / 2 % 8, w / 2 % 8⟩]) := by
  have hflag : w % 2 ≠ 0 := by omega
  simp only [decodeVarlen8, hflag, hn, if_false]

/-- The three patterns, for every stream bits. -/
theorem varlen8_cases (w : Nat) : w % 2 = 0 ∨ w % 16 = 1 ∨ (w % 2 = 1 ∧ w / 2 % 8 ≠ 0) := by omega

theorem fits_varlen8N {n x : Nat} (hn : n < 8) (hx : x < 2 ^ n) : 1 + 2 * n + 16 * x < 2 ^ (4 + n) := by
  rw [Nat.pow_add]
  omega

/-- The pattern `1 nnn x..x`, followed by any bits. -/
theorem decodeVarlen8_spelling {n x : Nat} (h1 : 1 ≤ n) (hn : n < 8) (hx : x < 2 ^ n) (rest : Nat) :
    decodeVarlen8 (1 + 2 * n + 16 * x + 2 ^ (4 + n) * rest) = (.varlen8N n x, [⟨1, 1⟩, ⟨3, 3⟩, ⟨n, n⟩]) := by
  have hword : 1 + 2 * n + 16 * x + 2 ^ (4 + n) * rest = 1 + 2 * n + 16 * (x + 2 ^ n * rest) := by
    rw [Nat.pow_add]
    ring
  have hwidth : (1 + 2 * n + 16 * (x + 2 ^ n * rest)) / 2 % 8 = n := by omega
  have hvalue : (1 + 2 * n + 16 * (x + 2 ^ n * rest)) / 16 = x + 2 ^ n * rest := by omega
  rw [hword, decodeVarlen8_n (by omega) (by omega), hwidth, hvalue, add_pow_mul_mod hx]

/-- With enough fuel `bitlen` counts one bit more than the exponent of the leading one. -/
theorem bitlenFuel_eq_log (fuel : Nat) : ∀ {v : Nat}, v ≠ 0 → v < 2 ^ fuel → bitlenFuel fuel v = Nat.log 2 v + 1 := by
  induction fuel with
  | zero => intro v hv hlt; omega
  | succ fuel ih =>
    intro v hv hlt
    rw [bitlenFuel, if_neg hv]
    rcases Nat.lt_or_ge v 2 with h2 | h2
    · rw [show v = 1 by omega]
      cases fuel <;> rfl
    · rw [ih (by omega) (by rw [Nat.pow_succ] at hlt; omega), Nat.log_div_base]
      have : 1 ≤ Nat.log 2 v := Nat.log_pos (by decide) h2
      omega

/-- R104: a value of 2 to 255 is `2^n + x`. -/
theorem exists_pow_add {v : Nat} (h2 : 2 ≤ v) (h : v < 256) : ∃ n x, 1 ≤ n ∧ n < 8 ∧ x < 2 ^ n ∧ v = 2 ^ n + x := by
  have hlow : 2 ^ Nat.log 2 v ≤ v := Nat.pow_log_le_self 2 (by omega)
  have hhigh : v < 2 ^ (Nat.log 2 v + 1) := Nat.lt_pow_succ_log_self (by decide) v
  rw [Nat.pow_succ] at hhigh
  exact ⟨Nat.log 2 v, v - 2 ^ Nat.log 2 v, Nat.log_pos (by decide) h2, Nat.log_lt_of_lt_pow (by omega) h, by omega, by omega⟩

/-- The encoder finds the width and the bits of `2^n + x`. -/
theorem encodeVarlen8_pow_add {n x : Nat} (h1 : 1 ≤ n) (hn : n < 8) (hx : x < 2 ^ n) :
    encodeVarlen8 (2 ^ n + x) = some (1 + 2 * n + 16 * x, 4 + n) := by
  have hlow : 2 ^ 1 ≤ 2 ^ n := Nat.pow_le_pow_right (by decide) h1
  have hhigh : 2 ^ (n + 1) ≤ 2 ^ 8 := Nat.pow_le_pow_right (by decide) hn
  rw [Nat.pow_succ] at hhigh
  have hlog : Nat.log 2 (2 ^ n + x) = n := Nat.log_eq_of_pow_le_of_lt_pow (by omega) (by rw [Nat.pow_succ]; omega)
  have hbitlen : bitlen (2 ^ n + x) - 1 = n := by
    rw [bitlen, bitlenFuel_eq_log 64 (by omega) (by omega), hlog, Nat.add_sub_cancel]
  simp only [encodeVarlen8, hbitlen, Nat.add_sub_cancel_left]
  rw [if_neg (by omega), if_neg (by omega), if_pos (by omega)]

theorem encodeVarlen8_cases {v : Nat} {p : Nat × Nat} (h : encodeVarlen8 v = some p) :
    (v = 0 ∧ p = (0, 1)) ∨ (v = 1 ∧ p = (1, 4)) ∨
      ∃ n x, 1 ≤ n ∧ n < 8 ∧ x < 2 ^ n ∧ v = 2 ^ n + x ∧ p = (1 + 2 * n + 16 * x, 4 + n) := by
  match v with
  | 0 => exact .inl ⟨rfl, (Option.some.inj h).symm⟩
  | 1 => exact .inr (.inl ⟨rfl, (Option.some.inj h).symm⟩)
  | v + 2 =>
    have hv : v + 2 < 256 := by
      by_contra hlarge
      rw [encodeVarlen8, if_neg (by omega), if_neg (by omega), if_neg hlarge] at h
      cases h
    obtain ⟨n, x, h1, hn, hx, hsplit⟩ := exists_pow_add (by omega) hv
    rw [hsplit, encodeVarlen8_pow_add h1 hn hx] at h
    exact .inr (.inr ⟨n, x, h1, hn, hx, hsplit, (Option.some.inj h).symm⟩)

theorem spells_varlen8 {i : Instr} {p : Nat × Nat} (h : encode .varlen8 i = some p) : Spells (decodeElem .varlen8) i p := by
  unfold encode at h
  simp only at h
  split at h
  · cases h
    exact ⟨by decide, fun rest => ⟨_, congrArg some (decodeVarlen8_zero (by simp only; omega)), rfl⟩⟩
  · cases h
    exact ⟨by decide, fun rest => ⟨_, congrArg some (decodeVarlen8_one (by simp only; omega)), rfl⟩⟩
  · next n x =>
    split at h
    · next hfield =>
      obtain ⟨h1, hn, hx⟩ := hfield
      cases h
      exact ⟨fits_varlen8N hn hx, fun rest => ⟨_, congrArg some (decodeVarlen8_spelling h1 hn hx rest), by simp; omega⟩⟩
    · cases h
  · cases h

/-- A value of 0 to 255 is spelt by the pattern of that value. -/
theorem encodeVarlen8_pattern {v : Nat} {p : Nat × Nat} (h : encodeVarlen8 v = some p) :
    ∃ i, encode .varlen8 i = some p ∧ varlen8Value i = v := by
  obtain ⟨rfl, rfl⟩ | ⟨rfl, rfl⟩ | ⟨n, x, h1, hn, hx, rfl, rfl⟩ := encodeVarlen8_cases h
  · exact ⟨.varlen8Zero, rfl, rfl⟩
  · exact ⟨.varlen8One, rfl, rfl⟩
  · exact ⟨.varlen8N n x, if_pos ⟨h1, hn, hx⟩, rfl⟩

theorem spells_varlen8Elem {v : Nat} {p : Nat × Nat} {f : Nat → Instr} (h : encodeVarlen8 v = some p) :
    Spells (fun w => varlen8Elem w f) (f v) p := by
  obtain ⟨i, hi, rfl⟩ := encodeVarlen8_pattern h
  obtain ⟨hfits, hdecodes⟩ := spells_varlen8 hi
  refine ⟨hfits, fun rest => ?_⟩
  obtain ⟨fs, hdec, hbits⟩ := hdecodes rest
  exact ⟨fs, by simp only [varlen8Elem, Option.some.inj hdec], hbits⟩

/-! ## The unique spelling (R104) -/

/-- Decoded stream bits are the spelling of the pattern they decode to. -/
theorem encode_decodeVarlen8 (w : Nat) :
    encode .varlen8 (decodeVarlen8 w).1 =
      some (w % 2 ^ fieldBits (decodeVarlen8 w).2, fieldBits (decodeVarlen8 w).2) := by
  obtain hzero | hone | ⟨hflag, hn⟩ := varlen8_cases w
  · rw [decodeVarlen8_zero hzero]
    exact congrArg (fun v => some (v, 1)) hzero.symm
  · rw [decodeVarlen8_one hone]
    exact congrArg (fun v => some (v, 4)) hone.symm
  · rw [decodeVarlen8_n hflag hn]
    generalize hwidth : w / 2 % 8 = n at *
    have hbits : fieldBits [⟨1, 1⟩, ⟨3, 3⟩, ⟨n, n⟩] = 4 + n := by simp; omega
    have hhead : w % 16 = 1 + 2 * n := by omega
    have hspelt : w % 2 ^ (4 + n) = 1 + 2 * n + 16 * (w / 16 % 2 ^ n) := by
      rw [Nat.pow_add, Nat.mod_mul, hhead]
    rw [hbits, hspelt]
    exact if_pos ⟨by omega, by omega, Nat.mod_lt _ (Nat.two_pow_pos n)⟩

/-- The encoder of values writes the spelling of every pattern. -/
theorem encodeVarlen8_value {i : Instr} {p : Nat × Nat} (h : encode .varlen8 i = some p) :
    encodeVarlen8 (varlen8Value i) = some p := by
  unfold encode at h
  simp only at h
  split at h
  · exact h
  · exact h
  · next n x =>
    split at h
    · next hfield =>
      obtain ⟨h1, hn, hx⟩ := hfield
      exact (encodeVarlen8_pow_add h1 hn hx).trans h
    · cases h
  · cases h

theorem encodeVarlen8_bounds {v : Nat} {p : Nat × Nat} (h : encodeVarlen8 v = some p) :
    v ≤ 255 ∧ 1 ≤ p.2 ∧ p.2 ≤ 11 := by
  obtain ⟨rfl, rfl⟩ | ⟨rfl, rfl⟩ | ⟨n, x, h1, hn, hx, rfl, rfl⟩ := encodeVarlen8_cases h
  · decide
  · decide
  · have hhigh : 2 ^ (n + 1) ≤ 2 ^ 8 := Nat.pow_le_pow_right (by decide) hn
    rw [Nat.pow_succ] at hhigh
    exact ⟨by omega, by simp only; omega, by simp only; omega⟩

/-- The encoder, given the value that stream bits decode to, writes the bits back. -/
theorem encodeVarlen8_of_decode {w : Nat} {i : Instr} {fs : List Field} (h : decodeElem .varlen8 w = some (i, fs)) :
    encodeVarlen8 (varlen8Value i) = some (w % 2 ^ fieldBits fs, fieldBits fs) := by
  have hdec : decodeVarlen8 w = (i, fs) := Option.some.inj h
  have henc := encodeVarlen8_value (encode_decodeVarlen8 w)
  rwa [hdec] at henc

theorem exists_decodeVarlen8 {v : Nat} (h : v ≤ 255) :
    ∃ w i fs, decodeElem .varlen8 w = some (i, fs) ∧ varlen8Value i = v := by
  match v with
  | 0 => exact ⟨0, _, _, rfl, rfl⟩
  | 1 => exact ⟨1, _, _, rfl, rfl⟩
  | v + 2 =>
    obtain ⟨n, x, h1, hn, hx, hsplit⟩ := exists_pow_add (v := v + 2) (by omega) (by omega)
    exact ⟨_, _, _, congrArg some (decodeVarlen8_spelling h1 hn hx 0), hsplit.symm⟩

/-- Settles O6: each value is decoded from some bits, and the bits are those that the encoder writes for the value. -/
theorem varlen8Spelling : Obligations.Varlen8Spelling := by
  refine ⟨fun w => ?_, rfl, rfl, fun n x => rfl, fun v => exists_decodeVarlen8, ?_⟩
  · have hdec : decodeElem .varlen8 w = some ((decodeVarlen8 w).1, (decodeVarlen8 w).2) := rfl
    obtain ⟨hvalue, hmin, hmax⟩ := encodeVarlen8_bounds (encodeVarlen8_of_decode hdec)
    refine ⟨_, _, hdec, hmin, hmax, hvalue, fun h => ?_, fun h => ?_, fun h hn => ?_⟩
    · rw [decodeVarlen8_zero h]
      exact ⟨rfl, rfl⟩
    · rw [decodeVarlen8_one h]
      exact ⟨rfl, rfl⟩
    · rw [decodeVarlen8_n h hn]
      exact ⟨rfl, by simp; omega⟩
  · intro w w' i i' fs fs' hdec hdec' hvalue
    have hspelt := encodeVarlen8_of_decode hdec
    rw [hvalue, encodeVarlen8_of_decode hdec'] at hspelt
    obtain ⟨hbits, hlen⟩ := Prod.mk.inj (Option.some.inj hspelt)
    rw [hlen] at hbits
    exact ⟨hlen.symm, hbits.symm⟩

end Sys2Proof
end


section
/-! PROOF. Every element: the encoder's answer in any format is a spelling of the instruction (R91, R112), and every well-formed
element has one (R90). -/

namespace Sys2Proof

/-! ## The instruction of a number is read back from the number of the instruction -/

theorem clclInstr_of_value {i : Instr} {c : Nat} (h : clclValue i = some c) : clclInstr c = some i := by
  unfold clclValue at h
  split at h <;> cases h <;> rfl

theorem clsymInstr_of_value {i : Instr} {c : Nat} (h : clsymValue i = some c) : clsymInstr c = some i := by
  unfold clsymValue at h
  split at h <;> cases h <;> rfl

theorem cmodeInstr_of_value {i : Instr} {c : Nat} (h : cmodeValue i = some c) : cmodeInstr c = some i := by
  unfold cmodeValue at h
  split at h <;> cases h <;> rfl

theorem hskipInstr_of_value {i : Instr} {c : Nat} (h : hskipValue i = some c) : hskipInstr c = some i := by
  unfold hskipValue at h
  split at h <;> cases h <;> rfl

theorem blenInstr_of_value {i : Instr} {q : Nat × Nat} (h : blenValue i = some q) : blenInstr q.1 q.2 = some i := by
  unfold blenValue at h
  split at h <;> cases h <;> rfl

theorem insInstr_of_value {i : Instr} {q : Nat × Nat} (h : insValue i = some q) : insInstr q.1 q.2 = some i := by
  unfold insValue at h
  split at h <;> cases h <;> rfl

theorem cpyInstr_of_value {i : Instr} {q : Nat × Nat} (h : cpyValue i = some q) : cpyInstr q.1 q.2 = some i := by
  unfold cpyValue at h
  split at h <;> cases h <;> rfl

theorem cellInstr_of_parts {i : Instr} {q : Nat × Nat × Nat} (h : cmdsymParts i = some q) :
    cellInstr q.1 q.2.1 q.2.2 = some i := by
  unfold cmdsymParts at h
  split at h <;> cases h <;> rfl

theorem shortInstr_of_value {i : Instr} {c : Nat} (h : shortValue i = some c) : c < 16 ∧ shortInstr c = some i := by
  unfold shortValue at h
  split at h <;> cases h <;> exact ⟨by decide, rfl⟩

/-- R108: the fields of the number of a command symbol. -/
theorem cmdsymInstr_of_parts {cell a c : Nat} (ha : a < 8) (hc : c < 8) :
    cmdsymInstr (64 * cell + 8 * a + c) = cellInstr cell a c := by
  have hcell : (64 * cell + 8 * a + c) / 64 = cell := by omega
  have hins : (64 * cell + 8 * a + c) / 8 % 8 = a := by omega
  have hcpy : (64 * cell + 8 * a + c) % 8 = c := by omega
  rw [cmdsymInstr, hcell, hins, hcpy]

/-! ## The formats that go through the number of an instruction -/

theorem encode_cmode (i : Instr) : encode .cmode i = (cmodeValue i).bind (encodeField 2) := rfl

theorem encode_hskip (i : Instr) : encode .hskip i = (hskipValue i).bind (encodeField 2) := rfl

theorem encode_clsym (t : Table) (i : Instr) : encode (.clsym t) i = (clsymValue i).bind (encodeSym t) := rfl

theorem encode_blen (t : Table) (i : Instr) :
    encode (.blen t) i = (blenValue i).bind fun q => encodeExtra t q.1 (blenBits q.1) q.2 := rfl

theorem encode_cmdsym (t : Table) (i : Instr) :
    encode (.cmdsym t) i = (cmdsymParts i).bind fun q =>
      if q.2.1 < 8 ∧ q.2.2 < 8 then encodeSym t (64 * q.1 + 8 * q.2.1 + q.2.2) else none := rfl

theorem encode_ins (k : Nat) (i : Instr) :
    encode (.ins k) i = (insValue i).bind fun q => if q.1 = k then encodeField (insBits k) q.2 else none := rfl

theorem encode_cpy (k : Nat) (i : Instr) :
    encode (.cpy k) i = (cpyValue i).bind fun q => if q.1 = k then encodeField (cpyBits k) q.2 else none := rfl

theorem decodeElem_clcl (w : Nat) :
    decodeElem .clcl w = (clclInstr (clVlc (w % 16)).2).map fun i => (i, [⟨4, (clVlc (w % 16)).1⟩]) := rfl

/-! ## The formats whose instruction is not the image of one field -/

/-- R172: a pattern of `n` bits stands in `CL_VLC` at every index that starts with it. -/
theorem spells_clVlc {i : Instr} {v n c : Nat} (hc : clclInstr c = some i) (hn : n ≤ 4) (hv : v < 2 ^ n)
    (hrom : ∀ k, k < 16 → k % 2 ^ n = v → clVlc k = (n, c)) : Spells (decodeElem .clcl) i (v, n) := by
  refine ⟨hv, fun rest => ⟨[⟨4, n⟩], ?_, rfl⟩⟩
  have hindex : (v + 2 ^ n * rest) % 16 % 2 ^ n = v := by
    rw [show 16 = 2 ^ 4 by rfl, Nat.mod_mod_of_dvd _ (Nat.pow_dvd_pow 2 hn), add_pow_mul_mod hv]
  simp only [decodeElem_clcl, hrom _ (Nat.mod_lt _ (by decide)) hindex, hc, Option.map_some]

theorem spells_clcl {i : Instr} {p : Nat × Nat} (h : encode .clcl i = some p) : Spells (decodeElem .clcl) i p := by
  unfold encode at h
  simp only at h
  split at h
  case h_7 => cases h
  all_goals
    next hval =>
      cases h
      exact spells_clVlc (clclInstr_of_value hval) (by decide) (by decide) (by decide)

/-- R187: a context-map symbol, zero, run or tree. -/
theorem spells_cmsym {t : Table} (ht : t.Replicated) {mrlp : Nat} {i : Instr} {p : Nat × Nat}
    (h : encode (.cmsym t mrlp) i = some p) : Spells (decodeElem (.cmsym t mrlp)) i p := by
  unfold encode at h
  simp only at h
  split at h
  · exact spells_symbolElem ht h rfl
  · next k =>
    split at h
    · next hk => exact spells_symbolElem ht h (by rw [cmsymInstr, if_neg (by omega), if_pos hk.2])
    · cases h
  · next k =>
    split at h
    · next hk => exact spells_symbolElem ht h (by rw [cmsymInstr, if_neg (by omega), if_neg (by omega)])
    · cases h
  · cases h

/-- R110: a block-type symbol. -/
theorem spells_btsym {t : Table} (ht : t.Replicated) {i : Instr} {p : Nat × Nat}
    (h : encode (.btsym t) i = some p) : Spells (decodeElem (.btsym t)) i p := by
  unfold encode at h
  simp only at h
  split at h
  · exact spells_symbolElem ht h rfl
  · exact spells_symbolElem ht h rfl
  · next k =>
    split at h
    · next hk => exact spells_symbolElem ht h (by rw [btsymInstr, if_neg (by omega), if_neg (by omega)])
    · cases h
  · cases h

/-- R108: a command symbol. -/
theorem spells_cmdsym {t : Table} (ht : t.Replicated) {i : Instr} {p : Nat × Nat}
    (h : encode (.cmdsym t) i = some p) : Spells (decodeElem (.cmdsym t)) i p := by
  rw [encode_cmdsym] at h
  obtain ⟨⟨cell, a, c⟩, hparts, h⟩ := Option.bind_eq_some_iff.1 h
  split at h
  · next hsub => exact spells_symbolElem ht h ((cmdsymInstr_of_parts hsub.1 hsub.2).trans (cellInstr_of_parts hparts))
  · cases h

/-- R109: a distance symbol: the short codes are those below 16. -/
theorem spells_distsym {t : Table} (ht : t.Replicated) {nd : Nat} {i : Instr} {p : Nat × Nat}
    (h : encode (.distsym t nd) i = some p) : Spells (decodeElem (.distsym t nd)) i p := by
  unfold encode at h
  simp only at h
  split at h
  · next c =>
    split at h
    · next hc => exact spells_symbolElem ht h (by rw [distsymInstr, if_neg (by omega), if_pos hc.2])
    · cases h
  · next c =>
    split at h
    · next hc => exact spells_symbolElem ht h (by rw [distsymInstr, if_neg (by omega), if_neg (by omega)])
    · cases h
  · obtain ⟨c, hval, h⟩ := Option.bind_eq_some_iff.1 h
    obtain ⟨hc, hshort⟩ := shortInstr_of_value hval
    exact spells_symbolElem ht h (by rw [distsymInstr, if_pos hc, hshort])

/-- R247, R248: the extra bits of a length code, whose width the code fixes. -/
theorem spells_lengthField {k : Nat} {nb : Nat → Nat} {g : Nat → Nat → Option Instr} {o : Option (Nat × Nat)} {i : Instr}
    {p : Nat × Nat} (hg : ∀ {q}, o = some q → g q.1 q.2 = some i)
    (h : (o.bind fun q => if q.1 = k then encodeField (nb k) q.2 else none) = some p) :
    Spells (fun w => (g k (w % 2 ^ nb k)).map fun j => (j, [⟨nb k, nb k⟩])) i p := by
  obtain ⟨q, hq, h⟩ := Option.bind_eq_some_iff.1 h
  split at h
  · next hk => exact spells_namedField (g := g k) h (hk ▸ hg hq)
  · cases h

/-- R91, R112: in every format, the bits that the encoder writes spell the instruction. -/
theorem encode_spells {fmt : ElemFmt} {i : Instr} {p : Nat × Nat} (ht : ∀ t, fmt.table? = some t → t.Replicated)
    (h : encode fmt i = some p) : Spells (decodeElem fmt) i p := by
  cases fmt
  case islast | isempty | isuncompressed | rleflag | imtf | treeSelect =>
    unfold encode at h
    simp only at h
    split at h
    · exact spells_flagField h
    · cases h
  case mnibbles | mlenNibble | npostfix | ndirectHi | rlemax | nsym | clrep16 | clrep17 =>
    unfold encode at h
    simp only at h
    split at h
    · exact spells_fixedField h
    · cases h
  case pad | cmrun | simpleSym | distExtra =>
    unfold encode at h
    simp only at h
    split at h
    · split at h
      · next hn =>
        subst hn
        exact spells_fixedField h
      · cases h
    · cases h
  case rawbyte =>
    unfold encode at h
    simp only at h
    split at h
    · next b => exact spells_namedField (g := fun v => some (.rawbyte (BitVec.ofNat 8 v))) h (by simp)
    · cases h
  case nbltypes | ntrees =>
    unfold encode at h
    simp only at h
    split at h
    · exact spells_varlen8Elem h
    · cases h
  case cmode =>
    rw [encode_cmode] at h
    obtain ⟨c, hval, h⟩ := Option.bind_eq_some_iff.1 h
    exact spells_namedField h (cmodeInstr_of_value hval)
  case hskip =>
    rw [encode_hskip] at h
    obtain ⟨c, hval, h⟩ := Option.bind_eq_some_iff.1 h
    exact spells_namedField h (hskipInstr_of_value hval)
  case clsym t =>
    rw [encode_clsym] at h
    obtain ⟨c, hval, h⟩ := Option.bind_eq_some_iff.1 h
    exact spells_symbolElem (ht t rfl) h (clsymInstr_of_value hval)
  case literal t =>
    unfold encode at h
    simp only at h
    split at h
    · next b => exact spells_symbolElem (ht t rfl) h (by simp [literalInstr, b.isLt])
    · cases h
  case blenFirst t =>
    unfold encode at h
    simp only at h
    split at h
    · split at h
      · next k x hk =>
        have hname : (if k < 26 then some (Instr.blenFirst k x) else none) = some (.blenFirst k x) := if_pos hk
        exact spells_extraElem (f := fun k x => if k < 26 then some (.blenFirst k x) else none) (ht t rfl) h hname
      · cases h
    · cases h
  case blen t =>
    rw [encode_blen] at h
    obtain ⟨q, hval, h⟩ := Option.bind_eq_some_iff.1 h
    exact spells_extraElem (ht t rfl) h (blenInstr_of_value hval)
  case varlen8 => exact spells_varlen8 h
  case clcl => exact spells_clcl h
  case cmsym t mrlp => exact spells_cmsym (ht t rfl) h
  case btsym t => exact spells_btsym (ht t rfl) h
  case cmdsym t => exact spells_cmdsym (ht t rfl) h
  case distsym t nd => exact spells_distsym (ht t rfl) h
  case ins k => exact spells_lengthField insInstr_of_value (encode_ins k i ▸ h)
  case cpy k => exact spells_lengthField cpyInstr_of_value (encode_cpy k i ▸ h)

/-- Settles O4: what the encoder writes spells the instruction (`encode_spells`). -/
theorem decodeEncodeAgree : Obligations.DecodeEncodeAgree := by
  intro fmt i v n rest ht h
  exact (encode_spells ht h).decodes rest

end Sys2Proof
end


section
/-! PROOF. Every well-formed element has an encoding (R90, R91): a fixed field in its own format, a symbol in the format of a table
whose only codeword, of no bits, is that symbol's (R157). -/

namespace Sys2Proof

/-! ## The table of one codeword of no bits -/

theorem singleTable_zero_entry {sym k : Nat} {e : Entry} (h : (singleTable 0 sym).entries[k]? = some e) :
    e = .terminal 0 sym :=
  (List.mem_replicate.1 (List.mem_of_getElem? h)).2

theorem singleTable_zero_replicated (sym : Nat) : (singleTable 0 sym).Replicated := by
  refine ⟨fun k hk bits s h => ?_, fun k hk subBits base h => ?_⟩
  · cases singleTable_zero_entry h
    exact ⟨Nat.le_refl 0, fun j hj _ => List.getElem?_replicate_of_lt hj⟩
  · cases singleTable_zero_entry h

@[simp] theorem encodeSym_singleTable_zero (sym : Nat) : encodeSym (singleTable 0 sym) sym = some (0, 0) := by
  simp [encodeSym, singleTable]

theorem encodeExtra_singleTable_zero {sym nb x : Nat} (h : x < 2 ^ nb) :
    encodeExtra (singleTable 0 sym) sym nb x = some (x, nb) := by
  simp [encodeExtra, h]

/-! ## Instructions with an encoding -/

/-- A well-formedness check of two parts. -/
theorem and_of_decide {a b : Prop} [Decidable a] [Decidable b] (h : (decide a && decide b) = true) : a ∧ b := by
  simpa using h

/-- `i` is an element of some format, and the table of the format, if it has one, is laid out as the builder lays it out. -/
def Encodable (i : Instr) : Prop :=
  ∃ (fmt : ElemFmt) (p : Nat × Nat), (∀ t, fmt.table? = some t → t.Replicated) ∧ encode fmt i = some p

theorem replicated_of_noTable {fmt : ElemFmt} (h : fmt.table? = none) (t : Table) (ht : fmt.table? = some t) :
    t.Replicated := by
  rw [h] at ht
  cases ht

theorem replicated_of_singleTable {fmt : ElemFmt} {sym : Nat} (h : fmt.table? = some (singleTable 0 sym)) (t : Table)
    (ht : fmt.table? = some t) : t.Replicated := by
  rw [h] at ht
  cases ht
  exact singleTable_zero_replicated sym

theorem encodable_of_field {fmt : ElemFmt} {i : Instr} {n x : Nat} (hfmt : fmt.table? = none) (hx : x < 2 ^ n)
    (h : encode fmt i = encodeField n x) : Encodable i :=
  ⟨fmt, (x, n), replicated_of_noTable hfmt, h.trans (if_pos hx)⟩

theorem encodable_of_flag {fmt : ElemFmt} {i : Instr} {v : Bool} (hfmt : fmt.table? = none)
    (h : encode fmt i = encodeFlag v) : Encodable i :=
  ⟨fmt, _, replicated_of_noTable hfmt, h⟩

theorem encodable_of_symbol {fmt : ElemFmt} {i : Instr} {sym : Nat} (hfmt : fmt.table? = some (singleTable 0 sym))
    (h : encode fmt i = encodeSym (singleTable 0 sym) sym) : Encodable i :=
  ⟨fmt, (0, 0), replicated_of_singleTable hfmt,
    h.trans (encodeSym_singleTable_zero sym)⟩

theorem encodable_of_extra {fmt : ElemFmt} {i : Instr} {sym nb x : Nat} (hfmt : fmt.table? = some (singleTable 0 sym))
    (hx : x < 2 ^ nb) (h : encode fmt i = encodeExtra (singleTable 0 sym) sym nb x) : Encodable i :=
  ⟨fmt, (x, nb), replicated_of_singleTable hfmt,
    h.trans (encodeExtra_singleTable_zero hx)⟩

theorem encodable_of_varlen8 {fmt : ElemFmt} {i : Instr} {v : Nat} (hfmt : fmt.table? = none) (hv : v < 256)
    (h : encode fmt i = encodeVarlen8 v) : Encodable i := by
  obtain ⟨p, hp⟩ : ∃ p, encodeVarlen8 v = some p := by
    simp only [encodeVarlen8, hv, if_true]
    split
    · exact ⟨_, rfl⟩
    · split <;> exact ⟨_, rfl⟩
  exact ⟨fmt, p, replicated_of_noTable hfmt, h.trans hp⟩

/-- R246: a block length code with its extra bits. -/
theorem encodable_of_blen {i : Instr} {k x : Nat} (hval : blenValue i = some (k, x)) (hx : x < 2 ^ blenBits k) : Encodable i :=
  encodable_of_extra (fmt := .blen (singleTable 0 k)) rfl hx (by simp only [encode_blen, hval, Option.bind_some])

/-- R247: the extra bits of an insert length code. -/
theorem encodable_of_ins {i : Instr} {k x : Nat} (hval : insValue i = some (k, x)) (hx : x < 2 ^ insBits k) : Encodable i :=
  encodable_of_field (fmt := .ins k) rfl hx (by simp only [encode_ins, hval, Option.bind_some, if_true])

/-- R248: the extra bits of a copy length code. -/
theorem encodable_of_cpy {i : Instr} {k x : Nat} (hval : cpyValue i = some (k, x)) (hx : x < 2 ^ cpyBits k) : Encodable i :=
  encodable_of_field (fmt := .cpy k) rfl hx (by simp only [encode_cpy, hval, Option.bind_some, if_true])

/-- R108: a command symbol of a cell and two sub-indexes. -/
theorem encodable_of_cell {i : Instr} {cell a c : Nat} (hparts : cmdsymParts i = some (cell, a, c))
    (hsub : a < 8 ∧ c < 8) : Encodable i :=
  encodable_of_symbol (fmt := .cmdsym (singleTable 0 (64 * cell + 8 * a + c))) rfl
    (by simp only [encode_cmdsym, hparts, Option.bind_some, if_pos hsub])

/-- R111: a code-length symbol. -/
theorem encodable_of_clsym {i : Instr} {c : Nat} (hval : clsymValue i = some c) : Encodable i :=
  encodable_of_symbol (fmt := .clsym (singleTable 0 c)) rfl (by simp only [encode_clsym, hval, Option.bind_some])

/-- R90: every well-formed instruction that is no operation, host write or state is an element of some format. -/
theorem encodable_of_wellFormed {i : Instr} (hwf : i.WellFormed = true) (hop : opNumber i = none) (hst : stateNumber i = none)
    (hctrl : ∀ v, ctrlOfNumber v ≠ some i) : Encodable i := by
  cases i
  case islast v => exact encodable_of_flag (fmt := .islast) rfl rfl
  case isempty v => exact encodable_of_flag (fmt := .isempty) rfl rfl
  case isuncompressed v => exact encodable_of_flag (fmt := .isuncompressed) rfl rfl
  case rleflag v => exact encodable_of_flag (fmt := .rleflag) rfl rfl
  case imtf v => exact encodable_of_flag (fmt := .imtf) rfl rfl
  case treeSelect v => exact encodable_of_flag (fmt := .treeSelect) rfl rfl
  case mnibbles n => exact encodable_of_field (fmt := .mnibbles) (n := 2) rfl (of_decide_eq_true hwf) rfl
  case mlenNibble d => exact encodable_of_field (fmt := .mlenNibble) (n := 4) rfl (of_decide_eq_true hwf) rfl
  case npostfix p => exact encodable_of_field (fmt := .npostfix) (n := 2) rfl (of_decide_eq_true hwf) rfl
  case ndirectHi d => exact encodable_of_field (fmt := .ndirectHi) (n := 4) rfl (of_decide_eq_true hwf) rfl
  case rlemax m => exact encodable_of_field (fmt := .rlemax) (n := 4) rfl (of_decide_eq_true hwf) rfl
  case nsym n => exact encodable_of_field (fmt := .nsym) (n := 2) rfl (of_decide_eq_true hwf) rfl
  case clrepExtra16 x => exact encodable_of_field (fmt := .clrep16) (n := 2) rfl (of_decide_eq_true hwf) rfl
  case clrepExtra17 x => exact encodable_of_field (fmt := .clrep17) (n := 3) rfl (of_decide_eq_true hwf) rfl
  case rawbyte b => exact encodable_of_field (fmt := .rawbyte) rfl b.isLt rfl
  case pad n x =>
    obtain ⟨-, hx⟩ : n < 8 ∧ x < 2 ^ n := and_of_decide hwf
    exact encodable_of_field (fmt := .pad n) rfl hx (if_pos rfl)
  case cmrun k x =>
    obtain ⟨-, hx⟩ := Bool.and_eq_true_iff.1 hwf
    exact encodable_of_field (fmt := .cmrun k) rfl (of_decide_eq_true hx) (if_pos rfl)
  case simpleSym w v =>
    obtain ⟨-, hv⟩ : w ≤ 10 ∧ v < 2 ^ w := and_of_decide hwf
    exact encodable_of_field (fmt := .simpleSym w) rfl hv (if_pos rfl)
  case distExtra nb x =>
    obtain ⟨-, hx⟩ := Bool.and_eq_true_iff.1 hwf
    exact encodable_of_field (fmt := .distExtra nb) rfl (of_decide_eq_true hx) (if_pos rfl)
  case varlen8Zero => exact ⟨.varlen8, _, nofun, rfl⟩
  case varlen8One => exact ⟨.varlen8, _, nofun, rfl⟩
  case varlen8N n x =>
    obtain ⟨hn, hx⟩ := Bool.and_eq_true_iff.1 hwf
    obtain ⟨h1, hn⟩ : 1 ≤ n ∧ n < 8 := and_of_decide hn
    exact ⟨.varlen8, _, nofun, if_pos ⟨h1, hn, of_decide_eq_true hx⟩⟩
  case nbltypes v => exact encodable_of_varlen8 (fmt := .nbltypes) rfl (of_decide_eq_true hwf) rfl
  case ntrees v => exact encodable_of_varlen8 (fmt := .ntrees) rfl (of_decide_eq_true hwf) rfl
  case cmodeLsb6 | cmodeMsb6 | cmodeUtf8 | cmodeSigned => exact ⟨.cmode, _, nofun, rfl⟩
  case hskipSimple | hskipComplex0 | hskipComplex2 | hskipComplex3 => exact ⟨.hskip, _, nofun, rfl⟩
  case clcl0 | clcl1 | clcl2 | clcl3 | clcl4 | clcl5 => exact ⟨.clcl, _, nofun, rfl⟩
  case clsymLen0 | clsymLen1 | clsymLen2 | clsymLen3 | clsymLen4 | clsymLen5 | clsymLen6 | clsymLen7 | clsymLen8 | clsymLen9 |
      clsymLen10 | clsymLen11 | clsymLen12 | clsymLen13 | clsymLen14 | clsymLen15 | clsymRepeat | clsymZeros =>
    exact encodable_of_clsym rfl
  case blenFirst k x =>
    obtain ⟨hk, hx⟩ : k < 26 ∧ x < 2 ^ blenBits k := and_of_decide hwf
    exact encodable_of_extra (fmt := .blenFirst (singleTable 0 k)) rfl hx (if_pos hk)
  case blen0 x | blen1 x | blen2 x | blen3 x | blen4 x | blen5 x | blen6 x | blen7 x | blen8 x | blen9 x | blen10 x | blen11 x |
      blen12 x | blen13 x | blen14 x | blen15 x | blen16 x | blen17 x | blen18 x | blen19 x | blen20 x | blen21 x | blen22 x |
      blen23 x | blen24 x | blen25 x =>
    exact encodable_of_blen rfl (of_decide_eq_true hwf)
  case ins0 | ins1 | ins2 | ins3 | ins4 | ins5 => exact encodable_of_ins rfl (by decide)
  case ins6 x | ins7 x | ins8 x | ins9 x | ins10 x | ins11 x | ins12 x | ins13 x | ins14 x | ins15 x | ins16 x | ins17 x |
      ins18 x | ins19 x | ins20 x | ins21 x | ins22 x | ins23 x =>
    exact encodable_of_ins rfl (of_decide_eq_true hwf)
  case cpy0 | cpy1 | cpy2 | cpy3 | cpy4 | cpy5 | cpy6 | cpy7 => exact encodable_of_cpy rfl (by decide)
  case cpy8 x | cpy9 x | cpy10 x | cpy11 x | cpy12 x | cpy13 x | cpy14 x | cpy15 x | cpy16 x | cpy17 x | cpy18 x | cpy19 x |
      cpy20 x | cpy21 x | cpy22 x | cpy23 x =>
    exact encodable_of_cpy rfl (of_decide_eq_true hwf)
  case cmdsymCell0 a c | cmdsymCell1 a c | cmdsymCell2 a c | cmdsymCell3 a c | cmdsymCell4 a c | cmdsymCell5 a c |
      cmdsymCell6 a c | cmdsymCell7 a c | cmdsymCell8 a c | cmdsymCell9 a c | cmdsymCell10 a c =>
    exact encodable_of_cell rfl (and_of_decide hwf)
  case cmsymZero => exact encodable_of_symbol (fmt := .cmsym (singleTable 0 0) 0) rfl rfl
  case cmsymRun k =>
    obtain ⟨hk, -⟩ : 1 ≤ k ∧ k ≤ 16 := and_of_decide hwf
    exact encodable_of_symbol (fmt := .cmsym (singleTable 0 k) k) rfl (if_pos ⟨hk, Nat.le_refl k⟩)
  case cmsymTree k =>
    obtain ⟨hk, -⟩ : 1 ≤ k ∧ k < 512 := and_of_decide hwf
    exact encodable_of_symbol (fmt := .cmsym (singleTable 0 k) 0) rfl (if_pos hk)
  case btsymPrev => exact encodable_of_symbol (fmt := .btsym (singleTable 0 0)) rfl rfl
  case btsymNext => exact encodable_of_symbol (fmt := .btsym (singleTable 0 1)) rfl rfl
  case btsymExplicit k =>
    obtain ⟨hk, -⟩ : 2 ≤ k ∧ k < 258 := and_of_decide hwf
    exact encodable_of_symbol (fmt := .btsym (singleTable 0 k)) rfl (if_pos hk)
  case literal b => exact encodable_of_symbol (fmt := .literal (singleTable 0 b.toNat)) rfl rfl
  case distsymShort0 | distsymShort1 | distsymShort2 | distsymShort3 | distsymShort4 | distsymShort5 | distsymShort6 |
      distsymShort7 | distsymShort8 | distsymShort9 | distsymShort10 | distsymShort11 | distsymShort12 | distsymShort13 |
      distsymShort14 | distsymShort15 =>
    exact encodable_of_symbol (fmt := .distsym (singleTable 0 _) 16) rfl rfl
  case distsymDirect c =>
    obtain ⟨hc, -⟩ : 16 ≤ c ∧ c < 136 := and_of_decide hwf
    exact encodable_of_symbol (fmt := .distsym (singleTable 0 c) (c + 1)) rfl (if_pos ⟨hc, Nat.lt_succ_self c⟩)
  case distsymLong c =>
    obtain ⟨hc, -⟩ : 16 ≤ c ∧ c < 520 := and_of_decide hwf
    exact encodable_of_symbol (fmt := .distsym (singleTable 0 c) 16) rfl (if_pos ⟨hc, hc⟩)
  case ctrlStart => exact absurd rfl (hctrl 1)
  case ctrlAbort => exact absurd rfl (hctrl 2)
  case ctrlSizeq => exact absurd rfl (hctrl 3)
  case brFill | brPeek | brDrop | brRead | brAlign | brByte | htBuild | hdSym | hdReadcode | hdSimple | hdComplex | cmDecode |
      cmImtf | rbPut | rbGet | rbCopy | rbFlush | sdLookup | sdTransform | opStart | opAbort | opSizeq =>
    cases hop
  case cdIdle | cdMbBegin | cdMbHeader | cdUncompressedCopy | cdHdrBlocks | cdHdrDistparams | cdHdrCtxmodes | cdHdrCmapL |
      cdHdrCmapD | cdHdrTrees | cdCmdBegin | cdCmdLiteral | cdCmdDistance | cdCmdCopyWindow | cdCmdCopyDict | cdCmdEnd |
      cdMbDone | cdFlush | cdFinished | cdError =>
    cases hst

/-- Settles O5: a well-formed element is encodable, and what the encoder writes fits its length (`encode_spells`). -/
theorem everyElementEncodes : Obligations.EveryElementEncodes := by
  intro i hwf hop hst hctrl
  obtain ⟨fmt, ⟨v, n⟩, htable, henc⟩ := encodable_of_wellFormed hwf hop hst hctrl
  exact ⟨fmt, v, n, htable, henc, (encode_spells htable henc).fits⟩

end Sys2Proof
end


section
/-! PROOF. What single elements mean: words of the encoding tables, the length nibbles of a meta-block (R105), the cells of a
command symbol (R108) and the distance symbols (R109, R265, R266). -/

namespace Sys2Proof.Machine

/-- Settles O3: each word is decoded by the decoder as it stands. -/
theorem decodeOfWrittenWords : Obligations.DecodeOfWrittenWords := by
  unfold Obligations.DecodeOfWrittenWords
  exact ⟨rfl, rfl, rfl, rfl, rfl, rfl, rfl, rfl, rfl, rfl, rfl⟩

/-! ## The length nibbles (R105) -/

theorem execMlenNibble_add {s : State} (d : Nat) (h : s.visit.lenAcc < 16 ^ s.visit.nibI) :
    execMlenNibble d s = .next { s with
      visit := { s.visit with lenAcc := s.visit.lenAcc + d * 16 ^ s.visit.nibI, nibI := s.visit.nibI + 1 } } := by
  have hpow : 16 ^ s.visit.nibI = 2 ^ (4 * s.visit.nibI) := (Nat.pow_mul 2 4 s.visit.nibI).symm
  have hor : s.visit.lenAcc ||| d <<< (4 * s.visit.nibI) = s.visit.lenAcc + d * 16 ^ s.visit.nibI := by
    rw [Nat.or_comm, ← Nat.shiftLeft_add_eq_or_of_lt (hpow ▸ h), Nat.shiftLeft_eq, hpow, Nat.add_comm]
  simp only [execMlenNibble, hor]

/-- The nibbles `ds`, first nibble least significant, add their number to the length so far. -/
theorem execAll_mlenNibble {ds : List Nat} (hds : ∀ d ∈ ds, d < 16) {s : State} (h : s.visit.lenAcc < 16 ^ s.visit.nibI) :
    execAll (ds.map .mlenNibble) s = .next { s with
      visit := { s.visit with
        lenAcc := s.visit.lenAcc + 16 ^ s.visit.nibI * Nat.ofDigits 16 ds, nibI := s.visit.nibI + ds.length } } := by
  induction ds generalizing s with
  | nil => rfl
  | cons d ds ih =>
    obtain ⟨hd, hds⟩ := List.forall_mem_cons.1 hds
    have hfirst := execMlenNibble_add d h
    have hroom : s.visit.lenAcc + d * 16 ^ s.visit.nibI < 16 ^ (s.visit.nibI + 1) := by
      calc s.visit.lenAcc + d * 16 ^ s.visit.nibI < (d + 1) * 16 ^ s.visit.nibI := by rw [Nat.succ_mul]; omega
        _ ≤ 16 * 16 ^ s.visit.nibI := Nat.mul_le_mul_right _ hd
        _ = 16 ^ (s.visit.nibI + 1) := (Nat.pow_succ').symm
    have hsum : s.visit.lenAcc + d * 16 ^ s.visit.nibI + 16 ^ (s.visit.nibI + 1) * Nat.ofDigits 16 ds =
        s.visit.lenAcc + 16 ^ s.visit.nibI * Nat.ofDigits 16 (d :: ds) := by
      rw [Nat.ofDigits_cons]
      ring
    have hcount : s.visit.nibI + 1 + ds.length = s.visit.nibI + (d :: ds).length := by
      rw [List.length_cons]
      omega
    have hrest := ih hds (s := { s with
      visit := { s.visit with lenAcc := s.visit.lenAcc + d * 16 ^ s.visit.nibI, nibI := s.visit.nibI + 1 } }) hroom
    simp only [hsum, hcount] at hrest
    simp only [List.map_cons, execAll, exec, hfirst]
    exact hrest

/-- R105: the sum over the places of the nibbles is their number in base 16. -/
theorem sum_nibbles (ds : List Nat) :
    ((List.range ds.length).map fun i => ds.getD i 0 * 16 ^ i).sum = Nat.ofDigits 16 ds := by
  rw [Nat.ofDigits_eq_sum_mapIdx]
  congr 1
  apply List.ext_getElem
  · simp
  · intro i hi hi'
    have hlt : i < ds.length := by simpa using hi
    simp [List.getD_eq_getElem?_getD, hlt]

theorem State.headerBranch_eq_goto (s : State) : ∃ st, s.headerBranch = s.goto st := by
  simp only [State.headerBranch]
  split <;> exact ⟨_, rfl⟩

/-- The end of the length nibbles leaves the length in `MB.REM`, in a size query in the local of the query, and leaves the bit
reader and the window. -/
theorem State.endLen_length (s : State) :
    (s.q = false → s.endLen.mb.rem = s.visit.lenAcc + 1) ∧
    (s.q = true → s.endLen.visit.qSize = s.visit.lenAcc + 1 ∧ s.endLen.mb = s.mb) ∧
    s.endLen.br = s.br ∧ s.endLen.rb = s.rb := by
  by_cases hq : s.q = true
  · simp only [State.endLen, if_pos hq]
    split <;> exact ⟨fun h => (nomatch hq.symm.trans h), fun _ => ⟨rfl, rfl⟩, rfl, rfl⟩
  · simp only [State.endLen, if_neg hq]
    split
    · exact ⟨fun _ => rfl, fun h => absurd h hq, rfl, rfl⟩
    · obtain ⟨st, hgoto⟩ := State.headerBranch_eq_goto { s with mb := { s.mb with rem := s.visit.lenAcc + 1 } }
      rw [hgoto]
      exact ⟨fun _ => rfl, fun h => absurd h hq, rfl, rfl⟩

/-- Settles O29: the nibbles leave their number in base 16 (`execAll_mlenNibble`), which `endLen` makes the length. -/
theorem metaBlockLength : Obligations.MetaBlockLength := by
  intro s ds len hnib hacc hds hmin hmax hlen
  rw [sum_nibbles] at hlen
  have hbound : Nat.ofDigits 16 ds < 16 ^ 7 :=
    (Nat.ofDigits_lt_base_pow_length (by decide) hds).trans_le (Nat.pow_le_pow_right (by decide) hmax)
  have hrun := execAll_mlenNibble hds (s := s) (by rw [hacc]; exact Nat.pow_pos (by decide))
  refine ⟨by omega, by omega, _, _, hrun, rfl, ?_⟩
  have hvalue : s.visit.lenAcc + 16 ^ s.visit.nibI * Nat.ofDigits 16 ds + 1 = len := by
    rw [hlen, hacc, hnib]
    omega
  subst hvalue
  obtain ⟨hrem, hquery, hbr, hrb⟩ := State.endLen_length { s with
    visit := { s.visit with
      lenAcc := s.visit.lenAcc + 16 ^ s.visit.nibI * Nat.ofDigits 16 ds, nibI := s.visit.nibI + ds.length } }
  exact ⟨hrem, hquery, hbr, hrb⟩

/-! ## Command symbols (R108) -/

/-- Settles O34: each cell runs `latchCommand` with its row of the ranges. -/
theorem commandCells : Obligations.CommandCells := by
  intro s a c ib cb imp i h
  refine ⟨?_, rfl, rfl, rfl⟩
  simp only [List.mem_cons, List.not_mem_nil, or_false, Prod.mk.injEq] at h
  obtain ⟨rfl, rfl, rfl, rfl⟩ | ⟨rfl, rfl, rfl, rfl⟩ | ⟨rfl, rfl, rfl, rfl⟩ | ⟨rfl, rfl, rfl, rfl⟩ | ⟨rfl, rfl, rfl, rfl⟩ |
    ⟨rfl, rfl, rfl, rfl⟩ | ⟨rfl, rfl, rfl, rfl⟩ | ⟨rfl, rfl, rfl, rfl⟩ | ⟨rfl, rfl, rfl, rfl⟩ | ⟨rfl, rfl, rfl, rfl⟩ |
    ⟨rfl, rfl, rfl, rfl⟩ := h <;> rfl

/-! ## Distance symbols (R109, R264 to R266) -/

theorem DistRing.get_eq_getD (r : DistRing) (k : BitVec 2) : r.get k = [r.d0, r.d1, r.d2, r.d3].getD k.toNat 0 := by
  obtain rfl | rfl | rfl | rfl : k = 0 ∨ k = 1 ∨ k = 2 ∨ k = 3 := by
    revert k
    decide
  all_goals rfl

/-- R266: the resolution of a short code, by the sign of the distance it names. -/
theorem State.resolveCode_short {s : State} {c : Nat} {d : Int} (hc : c < 16) (hd : s.dr.short c = d) :
    (0 < d → s.resolveCode c = { s with cmd := { s.cmd with dcode := c, dist := d.toNat } }) ∧
    (d ≤ 0 → s.resolveCode c = State.raise .invalidBackwardReference 1 { s with cmd := { s.cmd with dcode := c } }) := by
  subst hd
  obtain ⟨hge, -⟩ | ⟨-, hpos, heq⟩ | ⟨-, hneg, heq⟩ := s.resolveCode_cases c
  · omega
  · exact ⟨fun _ => heq, fun _ => by omega⟩
  · exact ⟨fun _ => by omega, fun _ => heq⟩

/-- R266: a code from 16 on is the distance plus 15. -/
theorem State.resolveCode_direct {s : State} {c : Nat} (hc : 16 ≤ c) :
    s.resolveCode c = { s with cmd := { s.cmd with dcode := c, dist := c - 15 } } := by
  obtain ⟨-, heq⟩ | ⟨hlt, -⟩ | ⟨hlt, -⟩ := s.resolveCode_cases c
  · exact heq
  · omega
  · omega

theorem DistRing.short_eq (r : DistRing) (c : Nat) :
    r.short c = (([r.d0, r.d1, r.d2, r.d3].getD (r.idx + BitVec.ofNat 2 (dscIdx c)).toNat 0 : Nat) : Int) + dscVal c := by
  rw [DistRing.short, DistRing.get_eq_getD]

/-- Settles O42: each row names a slot and an offset of the ROM, and `resolveCode` goes by the sign of their sum. -/
theorem shortDistances : Obligations.ShortDistances := by
  refine ⟨fun s i c idx val d h hd => ?_, fun s d hcode hd => ?_⟩
  · have hrow : c < 16 ∧ exec i s = .next (s.resolveCode c) ∧ BitVec.ofNat 2 (dscIdx c) = idx ∧ dscVal c = val := by
      simp only [List.mem_cons, List.not_mem_nil, or_false, Prod.mk.injEq] at h
      obtain ⟨rfl, rfl, rfl, rfl⟩ | ⟨rfl, rfl, rfl, rfl⟩ | ⟨rfl, rfl, rfl, rfl⟩ | ⟨rfl, rfl, rfl, rfl⟩ |
        ⟨rfl, rfl, rfl, rfl⟩ | ⟨rfl, rfl, rfl, rfl⟩ | ⟨rfl, rfl, rfl, rfl⟩ | ⟨rfl, rfl, rfl, rfl⟩ |
        ⟨rfl, rfl, rfl, rfl⟩ | ⟨rfl, rfl, rfl, rfl⟩ | ⟨rfl, rfl, rfl, rfl⟩ | ⟨rfl, rfl, rfl, rfl⟩ |
        ⟨rfl, rfl, rfl, rfl⟩ | ⟨rfl, rfl, rfl, rfl⟩ | ⟨rfl, rfl, rfl, rfl⟩ | ⟨rfl, rfl, rfl, rfl⟩ := h <;>
        exact ⟨by decide, rfl, rfl, rfl⟩
    obtain ⟨hc, hexec, rfl, rfl⟩ := hrow
    obtain ⟨hpos, hneg⟩ := State.resolveCode_short hc ((s.dr.short_eq c).trans hd.symm)
    exact ⟨fun h => hexec.trans (congrArg Host.Outcome.next (hpos h)),
      fun h => hexec.trans (congrArg Host.Outcome.next (hneg h))⟩
  · have hlast : s.dr.short 0 = (d : Int) := by
      rw [hd, DistRing.short_eq]
      exact Int.add_zero _
    have hresolve : runAct .resolve s = .next (s.resolveCode 0) := by
      simp only [runAct, State.resolve, hcode, Int.toNat_zero]
    have hkeep : ({ s.cmd with dcode := (0 : Nat) } : Command) = s.cmd := by
      rw [Int.natCast_zero, ← hcode]
    obtain ⟨hpos, hneg⟩ := State.resolveCode_short (by decide) hlast
    refine ⟨fun h => ?_, fun h => ?_⟩
    · rw [hresolve, hpos (by omega), Int.toNat_natCast, Int.natCast_zero, ← hcode]
    · rw [hresolve, hneg (by omega), hkeep]

/-- R264: the table of a distance symbol, by the entry of the context map. -/
theorem State.distTable_of_entry {s : State} {tree : Byte}
    (h : s.cm.mapD[4 * s.blk.dist.cur + distContext s.cmd.cpy]? = some tree) :
    s.distTable = lookupTable s.ht (.tgD tree.toNat) := by
  simp only [State.distTable, h]

theorem longCode_eq (s : State) (c x : Nat) :
    longCode s c x = s.mb.numdirect +
      ((2 + longH s c % 2) * 2 ^ longBits s c - 4 + x) * 2 ^ s.mb.npostfix + (c - s.mb.numdirect) % 2 ^ s.mb.npostfix := by
  simp only [longCode, Nat.shiftLeft_eq]

/-- Settles O43: direct and long codes resolve as codes from 16 on do, the long one with the code of `longCode_eq`. -/
theorem directAndLongDistances : Obligations.DirectAndLongDistances := by
  refine ⟨?_, fun s c x nb hnd => ⟨fun hc => ?_, rfl, ?_⟩⟩
  · rintro s dctx tree rfl htree
    exact congrArg (Option.map fun t => ElemFmt.distsym t s.mb.numdirect) (State.distTable_of_entry htree)
  · exact congrArg Host.Outcome.next (State.resolveCode_direct hc)
  · rintro d h code rfl rfl hcode
    have hlong : longCode s s.visit.dsym x = code := (longCode_eq s s.visit.dsym x).trans hcode.symm
    refine ⟨?_, rfl⟩
    calc exec (.distExtra nb x) s = .next (s.resolveCode (longCode s s.visit.dsym x)) := rfl
      _ = .next { s with cmd := { s.cmd with dcode := code, dist := code - 15 } } := by
        rw [hlong, State.resolveCode_direct (by omega)]

end Sys2Proof.Machine
end


section
/-! PROOF. The step that reads an element (R112, R284): it runs the decoded instruction where the fields of the element are there,
and raises where one of them is not (R131, R135, R307). -/

namespace Sys2Proof.Machine

/-! ## A field that is not there -/

/-- R131, R135: after the end of input a field whose bits to consume are not there faults. -/
theorem BitReader.take_truncated {p : Config.Params} {b : BitReader} {f : Field} (herr : b.srcErr = false) (heos : b.eos = true)
    (hdrop : f.drop ≠ 0) (hshort : b.avail < b.cur + f.drop) : b.take p f = .fail .truncatedInput b := by
  have hready : b.need p f.need = .ready := by
    simp [BitReader.need, BitReader.windowShort, herr, heos]
  simp only [BitReader.take, hready, hdrop, hshort, ne_eq, not_false_eq_true, and_self, if_true]

/-- R131: after a failure of the source a field whose bits to wait for are not there faults. -/
theorem BitReader.take_sourceFailed {p : Config.Params} {b : BitReader} {f : Field} (herr : b.srcErr = true)
    (hdrop : f.drop ≠ 0) (hneed : f.need ≠ 0) (hshort : b.avail < b.cur + f.need) : b.take p f = .fail .sourceFailed b := by
  have hfailed : b.need p f.need = .failed := by
    simp only [BitReader.need, hneed, Nat.not_le.2 hshort, herr, if_false, if_true]
  simp only [BitReader.take, hfailed, hdrop, if_false]

/-- R307: where the fields before it are read and a field faults, the reads of the element fault there. -/
theorem BitReader.takeAll_of_fail {p : Config.Params} {b c : BitReader} {pre post : List Field} {f : Field} {e : ErrKind}
    (hpre : BitReader.takeAll p b pre = .ok c) (hf : c.fill.take p f = .fail e c.fill) :
    BitReader.takeAll p b (pre ++ f :: post) = .fail e c.fill := by
  simp only [BitReader.takeAll_append, hpre, BitReader.takeAll, hf]

/-! ## The fetch of an element -/

theorem State.fetch_of_decode {s : State} {k : Elem} {fmt : ElemFmt} {i : Instr} {fs : List Field}
    (hfmt : s.elemFmt k = some fmt) (hdec : decodeElem fmt (s.br.peek fetchBits) = some (i, fs)) :
    (∀ b, BitReader.takeAll s.par s.br fs = .ok b → s.fetch k = .ok i b) ∧
    (∀ e b, BitReader.takeAll s.par s.br fs = .fail e b → s.fetch k = .fail e b) := by
  refine ⟨fun b h => ?_, fun e b h => ?_⟩ <;> simp only [State.fetch, hfmt, hdec, h]

/-- The list of turns does not matter to the fetch of an element. -/
theorem State.setTurns_fetch (ts : List Agent) (s : State) (k : Elem) : (s.setTurns ts).fetch k = s.fetch k := by
  have hfmt : (s.setTurns ts).elemFmt k = s.elemFmt k := by cases k <;> rfl
  simp only [State.fetch, hfmt]
  rfl

/-! ## The turn of DEC -/

theorem decTurn_of_elem {s : State} {k : Elem} {rest : List Todo} (hoffer : s.snk.offer = none)
    (htodo : s.todo = .elem k :: rest) :
    (∀ i b, s.fetch k = .ok i b → decTurn s = exec i { s with br := b, todo := rest }) ∧
    (∀ e b, s.fetch k = .fail e b → decTurn s = .next (State.raise e 0 { s with br := b })) := by
  refine ⟨fun i b h => ?_, fun e b h => ?_⟩ <;>
    simp only [decTurn, State.heldOnOutput, hoffer, Option.isSome_none, Bool.false_eq_true, if_false, htodo, h]

/-- Log 2: with no turn listed, DEC moves while the host and the sink have nothing to do and DEC does not wait for input. -/
theorem step_of_noTurns {s : State} (hturns : s.env.turns = []) (hhost : s.env.host = []) (hoffer : s.snk.offer = none)
    (hinput : s.heldOnInput = false) : step s = decTurn s := by
  have hturn : s.defaultTurn = .dec := by
    simp [State.defaultTurn, State.heldOnOutput, hhost, hoffer, hinput]
  simp only [step, hturns, hturn, agentTurn]

theorem State.heldOnInput_of_elem {s : State} {k : Elem} {rest : List Todo} (htodo : s.todo = .elem k :: rest)
    (h : s.fetch k ≠ .hold) : s.heldOnInput = false := by
  cases hfetch : s.fetch k with
  | hold => exact absurd hfetch h
  | ok i b | fail e b | bad => simp only [State.heldOnInput, htodo, hfetch]

/-- Settles O1: the step is the turn of DEC, the fetch answers what the reads answer (`fetch_of_decode`), and a field that is not
there makes them fault at its first bit. -/
theorem stepRunsDecodedElement : Obligations.StepRunsDecodedElement := by
  intro s k rest fmt i fs hoffer htodo hfmt hdec
  obtain ⟨hfetchOk, hfetchFail⟩ := State.fetch_of_decode hfmt hdec
  refine ⟨fun b hb => ?_, fun e b hb => ?_, ?_⟩
  · obtain ⟨hinput, heos, herr, hcur, -⟩ := BitReader.takeAll_ok hb
    have hfetch := hfetchOk b hb
    refine ⟨hcur, hinput, heos, herr, fun ts hturns => ?_, fun hturns hhost => ?_⟩
    · obtain ⟨hok, -⟩ := decTurn_of_elem (s := s.setTurns ts) hoffer htodo
      exact (step_of_turn hturns).trans (hok i b ((s.setTurns_fetch ts k).trans hfetch))
    · have hheld := State.heldOnInput_of_elem htodo (by rw [hfetch]; nofun)
      obtain ⟨hok, -⟩ := decTurn_of_elem hoffer htodo
      exact (step_of_noTurns hturns hhost hoffer hheld).trans (hok i b hfetch)
  · have hfetch := hfetchFail e b hb
    refine ⟨fun ts hturns => ?_, fun hturns hhost => ?_⟩
    · obtain ⟨-, hfail⟩ := decTurn_of_elem (s := s.setTurns ts) hoffer htodo
      exact (step_of_turn hturns).trans (hfail e b ((s.setTurns_fetch ts k).trans hfetch))
    · have hheld := State.heldOnInput_of_elem htodo (by rw [hfetch]; nofun)
      obtain ⟨-, hfail⟩ := decTurn_of_elem hoffer htodo
      exact (step_of_noTurns hturns hhost hoffer hheld).trans (hfail e b hfetch)
  · rintro pre f post c rfl hpre hdrop
    obtain ⟨hinput, heos, herr, hcur, -⟩ := BitReader.takeAll_ok hpre
    have havail : c.fill.avail = s.br.avail := by simp [BitReader.avail, hinput]
    refine ⟨fun hnoerr hend hshort => ?_, fun hfailed hneed hshort => ?_⟩
    · have hf : c.fill.take s.par f = .fail .truncatedInput c.fill :=
        BitReader.take_truncated (by simpa [herr]) (by simpa [heos]) hdrop (by simpa [havail, hcur])
      exact ⟨c.fill, BitReader.takeAll_of_fail hpre hf, by simpa, by simpa, by simpa [heos], by simpa [herr]⟩
    · have hf : c.fill.take s.par f = .fail .sourceFailed c.fill :=
        BitReader.take_sourceFailed (by simpa [herr]) hdrop hneed (by simpa [havail, hcur])
      exact ⟨c.fill, BitReader.takeAll_of_fail hpre hf, by simpa, by simpa, by simpa, by simpa [herr]⟩

end Sys2Proof.Machine
end

section
/-! PROOF. What the stream bits of a peek are (R60, R133, R134), and the bytes of the register word (R14). -/

namespace Sys2Proof

/-- R60: bit `k` of a list of bytes is bit `k mod 8` of byte `k div 8`, zero past the last byte. -/
theorem testBit_leNat (l : List Byte) (k : Nat) : (leNat l).testBit k = streamBit l k := by
  induction l generalizing k with
  | nil => simp [leNat, streamBit, streamByte]
  | cons b l ih =>
    have hsum : leNat (b :: l) = 2 ^ 8 * leNat l + b.toNat := by simp only [leNat]; omega
    rw [hsum, Nat.testBit_two_pow_mul_add _ b.isLt]
    by_cases hk : k < 8
    · have hdiv : k / 8 = 0 := by omega
      simp [hk, streamBit, streamByte, hdiv, Nat.mod_eq_of_lt hk, BitVec.testBit_toNat, BitVec.getLsbD_eq_getElem]
    · obtain ⟨m, rfl⟩ : ∃ m, k = m + 8 := ⟨k - 8, by omega⟩
      simp [ih, streamBit, streamByte]

/-- The first bytes of what follows byte `i` hold the bits of the stream from that byte on. -/
theorem streamBit_take_drop {l : List Byte} {i m k : Nat} (h : k / 8 < m) :
    streamBit ((l.drop i).take m) k = streamBit l (8 * i + k) := by
  have hdiv : (8 * i + k) / 8 = i + k / 8 := by omega
  have hmod : (8 * i + k) % 8 = k % 8 := by omega
  simp [streamBit, streamByte, List.getD_eq_getElem?_getD, List.getElem?_take_of_lt h, hdiv, hmod]

/-- R134: bit `j` of the window is stream bit `cur + j`, for the `n` bits of the window. -/
theorem testBit_streamWindow (l : List Byte) (cur n j : Nat) :
    (streamWindow l cur n).testBit j = (decide (j < n) && streamBit l (cur + j)) := by
  rw [streamWindow, Nat.testBit_mod_two_pow, Nat.testBit_div_two_pow, testBit_leNat]
  by_cases hj : j < n
  · have hbyte : (j + cur % 8) / 8 < n / 8 + 2 := by omega
    have hpos : 8 * (cur / 8) + (j + cur % 8) = cur + j := by omega
    rw [streamBit_take_drop hbyte, hpos]
  · simp [hj]

/-- R138: at the first bit of byte `i` the window of eight bits is that byte. -/
theorem streamWindow_byte (l : List Byte) (i : Nat) : streamWindow l (8 * i) 8 = (streamByte l i).toNat := by
  apply Nat.eq_of_testBit_eq
  intro j
  rw [testBit_streamWindow, BitVec.testBit_toNat]
  by_cases hj : j < 8
  · have hdiv : (8 * i + j) / 8 = i := by omega
    have hmod : (8 * i + j) % 8 = j := by omega
    simp [hj, streamBit, hdiv, hmod]
  · simp [hj, BitVec.getLsbD_of_ge (streamByte l i) j (Nat.le_of_not_lt hj)]

end Sys2Proof

namespace Sys2Proof.Machine

/-- R14: the byte of the register word at place `k`. -/
theorem regWord_byte (l : List Byte) (p : Nat) {k : Nat} (hk : k < 4) :
    (regWord l p >>> (8 * k)).setWidth 8 = regByte l p k := by
  apply BitVec.eq_of_getLsbD_eq
  intro i hi
  simp only [regWord, BitVec.getLsbD_setWidth, BitVec.getLsbD_ushiftRight, BitVec.getLsbD_append]
  have hbyte2 : ¬i + 16 < 8 := by omega
  have hbyte3 : ¬i + 24 < 8 := by omega
  interval_cases k <;> simp [hi, Nat.add_comm _ i, hbyte2, hbyte3]

/-- Settles O7: the bits of a peek are those of the window of the stream. -/
theorem peekIsStreamBits : Obligations.PeekIsStreamBits := by
  intro b n j
  have hbit : (b.peek n).testBit j = (decide (j < n) && streamBit b.input (b.cur + j)) := testBit_streamWindow ..
  refine ⟨fun hj => ?_, fun hj => ?_⟩
  · rw [hbit, decide_eq_true hj, Bool.true_and]
    rfl
  · rw [hbit, decide_eq_false (Nat.not_lt.2 hj), Bool.false_and]

end Sys2Proof.Machine
end

section
/-! PROOF. The operations of the bit reader where their bits are there and where they are not (R131, R134 to R138). -/

namespace Sys2Proof.Machine

/-! ## What `need` answers (R131) -/

/-- R131, R135: the `n` bits asked for are there, or none is asked for, and DEC does not wait for its prefetch window. -/
def BitReader.BitsThere (p : Config.Params) (b : BitReader) (n : Nat) : Prop :=
  n = 0 ∨ (b.cur + n ≤ b.avail ∧ b.windowShort p = false)

theorem BitReader.BitsThere.need {p : Config.Params} {b : BitReader} {n : Nat} (h : b.BitsThere p n) : b.need p n = .ready := by
  rcases h with rfl | ⟨hbits, hwindow⟩
  · simp [BitReader.need]
  · simp [BitReader.need, hbits, hwindow]

theorem BitReader.BitsThere.take {p : Config.Params} {b : BitReader} {n : Nat} (h : b.BitsThere p n) :
    b.take p ⟨n, n⟩ = .ok (b.advance n) := by
  have hbits : ¬(n ≠ 0 ∧ b.avail < b.cur + n) := by
    rintro ⟨hn, hshort⟩
    rcases h with h0 | ⟨hle, -⟩ <;> omega
  simp only [BitReader.take, h.need, if_neg hbits]

section
variable {p : Config.Params} {b : BitReader} {n : Nat}

theorem BitReader.need_of_eos (herr : b.srcErr = false) (heos : b.eos = true) : b.need p n = .ready := by
  simp [BitReader.need, BitReader.windowShort, herr, heos]

theorem BitReader.need_of_srcErr (hn : n ≠ 0) (hshort : b.avail < b.cur + n) (herr : b.srcErr = true) :
    b.need p n = .failed := by
  simp [BitReader.need, hn, Nat.not_le.2 hshort, herr]

theorem BitReader.need_of_open (hn : n ≠ 0) (hshort : b.avail < b.cur + n) (herr : b.srcErr = false) (heos : b.eos = false) :
    b.need p n = .hold := by
  simp [BitReader.need, hn, Nat.not_le.2 hshort, herr, heos]

end

/-! ## The operations that consume bits (R135 to R138) -/

section
variable {i : Instr} {n : Nat} {f : State → State} {s : State}

theorem exec_of_there (hexec : exec i s = s.onTaken i (s.br.take s.par ⟨n, n⟩) f) (h : s.br.BitsThere s.par n) :
    exec i s = .next (f { s with br := s.br.advance n }) := by
  rw [hexec, h.take]
  rfl

/-- R131, R135: a consume of bits that are not there raises after the end of input and after a failure of the source, and is held
with neither. -/
theorem exec_of_short (hexec : exec i s = s.onTaken i (s.br.take s.par ⟨n, n⟩) f) (hn : n ≠ 0)
    (hshort : s.br.avail < s.br.cur + n) :
    (s.br.srcErr = false → s.br.eos = true → exec i s = .next (s.raise .truncatedInput 0)) ∧
    (s.br.srcErr = true → exec i s = .next (s.raise .sourceFailed 0)) ∧
    (s.br.srcErr = false → s.br.eos = false → exec i s = .next { s with todo := .op i :: s.todo }) := by
  refine ⟨fun herr heos => ?_, fun herr => ?_, fun herr heos => ?_⟩
  · rw [hexec, BitReader.take_truncated herr heos hn hshort]
    rfl
  · rw [hexec, BitReader.take_sourceFailed herr hn hn hshort]
    rfl
  · have hheld : s.br.take s.par ⟨n, n⟩ = .hold := by
      simp only [BitReader.take, BitReader.need_of_open hn hshort herr heos]
    rw [hexec, hheld]
    rfl

end

theorem exec_brDrop (n : Nat) (s : State) : exec (.brDrop n) s = s.onTaken (.brDrop n) (s.br.take s.par ⟨n, n⟩) id := rfl

theorem exec_brRead (n : Nat) (s : State) :
    exec (.brRead n) s = s.onTaken (.brRead n) (s.br.take s.par ⟨n, n⟩) (State.returnPeek (s.br.peek n)) := rfl

theorem exec_brAlign (s : State) :
    exec .brAlign s = s.onTaken .brAlign (s.br.take s.par ⟨padBits s.br.cur, padBits s.br.cur⟩) id := rfl

theorem exec_brByte (s : State) :
    exec .brByte s = s.onTaken .brByte (s.br.take s.par ⟨8, 8⟩) (State.returnPeek (s.br.peek 8)) := rfl

/-! ## `BR.PEEK` (R134) -/

theorem exec_brPeek (n : Nat) (s : State) : exec (.brPeek n) s = execBrPeek n s := rfl

theorem exec_brPeek_of_ready {n : Nat} {s : State} (h : s.br.need s.par n = .ready) :
    exec (.brPeek n) s = .next (s.returnPeek (s.br.peek n)) := by
  simp only [exec_brPeek, execBrPeek, h, State.returnPeek]

theorem exec_brPeek_of_failed {n : Nat} {s : State} (h : s.br.need s.par n = .failed) :
    exec (.brPeek n) s = .next (s.raise .sourceFailed 0) := by
  simp only [exec_brPeek, execBrPeek, h]

theorem exec_brPeek_of_hold {n : Nat} {s : State} (h : s.br.need s.par n = .hold) :
    exec (.brPeek n) s = .next (s.hold (.brPeek n)) := by
  simp only [exec_brPeek, execBrPeek, h]

/-- Settles O8: `need` is ready, and a consume of bits that are there advances the cursor. -/
theorem bitReaderReads : Obligations.BitReaderReads := by
  intro s n (hthere : s.br.BitsThere s.par n)
  exact ⟨exec_brPeek_of_ready hthere.need, exec_of_there (exec_brDrop n s) hthere, exec_of_there (exec_brRead n s) hthere,
    rfl, rfl, rfl, rfl⟩

/-- Settles O9: the answer of `need` for the peek, and `exec_of_short` for the two consumes. -/
theorem bitReaderPastEnd : Obligations.BitReaderPastEnd := by
  intro s n hn hshort
  obtain ⟨hdropEnd, hdropFailed, hdropHeld⟩ := exec_of_short (exec_brDrop n s) hn hshort
  obtain ⟨hreadEnd, hreadFailed, hreadHeld⟩ := exec_of_short (exec_brRead n s) hn hshort
  refine ⟨fun herr heos => ⟨?_, hdropEnd herr heos, hreadEnd herr heos⟩,
    fun herr => ⟨?_, hdropFailed herr, hreadFailed herr⟩,
    fun herr heos => ⟨?_, hdropHeld herr heos, hreadHeld herr heos⟩⟩
  · exact exec_brPeek_of_ready (BitReader.need_of_eos herr heos)
  · exact exec_brPeek_of_failed (BitReader.need_of_srcErr hn hshort herr)
  · exact exec_brPeek_of_hold (BitReader.need_of_open hn hshort herr heos)

/-! ## `BR.ALIGN` and `BR.BYTE` (R137, R138) -/

theorem padBits_lt (c : Nat) : padBits c < 8 := Nat.mod_lt _ (by decide)

theorem padBits_aligns (c : Nat) : (c + padBits c) % 8 = 0 := by
  simp only [padBits]
  omega

/-- R137: 1 to 7 bits that reach a byte boundary are the bits of `BR.ALIGN`. -/
theorem padBits_eq {c n : Nat} (hpos : 0 < n) (hlt : n < 8) (haligned : (c + n) % 8 = 0) : padBits c = n := by
  simp only [padBits]
  omega

/-- The input ends at a byte boundary, so that a cursor inside it has its padding bits there. -/
theorem BitReader.CursorOk.padBits_le {b : BitReader} (h : b.CursorOk) : b.cur + padBits b.cur ≤ b.avail := by
  simp only [BitReader.CursorOk, BitReader.avail, padBits] at h ⊢
  omega

theorem BitReader.byte_le_avail {b : BitReader} {x : Byte} (haligned : b.cur % 8 = 0) (h : b.input[b.cur / 8]? = some x) :
    b.cur + 8 ≤ b.avail := by
  obtain ⟨hlt, -⟩ := List.getElem?_eq_some_iff.1 h
  simp only [BitReader.avail]
  omega

/-- R138: a peek of eight bits at an aligned cursor is the byte there. -/
theorem BitReader.peek_byte {b : BitReader} {x : Byte} (haligned : b.cur % 8 = 0) (h : b.input[b.cur / 8]? = some x) :
    b.peek 8 = x.toNat := by
  have hcur : b.cur = 8 * (b.cur / 8) := by omega
  have hbyte : streamByte b.input (b.cur / 8) = x := by simp [streamByte, List.getD_eq_getElem?_getD, h]
  rw [BitReader.peek, hcur, streamWindow_byte, hbyte]

/-- Settles O10: both are consumes, of the padding bits and of eight bits. -/
theorem alignAndByte : Obligations.AlignAndByte := by
  refine fun s => ⟨fun hwindow => ⟨fun hcursor => ?_, fun haligned x hx => ?_⟩, ?_⟩
  · exact ⟨padBits s.br.cur, padBits_lt _, padBits_aligns _,
      exec_of_there (exec_brAlign s) (.inr ⟨hcursor.padBits_le, hwindow⟩)⟩
  · rw [← BitReader.peek_byte haligned hx]
    exact exec_of_there (exec_brByte s) (.inr ⟨BitReader.byte_le_avail haligned hx, hwindow⟩)
  · rintro i n (⟨rfl, hpos, hlt, haligned⟩ | ⟨rfl, rfl, -⟩) hshort
    · obtain rfl := padBits_eq hpos hlt haligned
      exact exec_of_short (exec_brAlign s) hpos.ne' hshort
    · exact exec_of_short (exec_brByte s) (by decide) hshort

end Sys2Proof.Machine
end

section
/-! PROOF. `BR.FILL` (R132): how far the loop fills the register, the first fill of a session, and the operation. -/

namespace Sys2Proof.Machine

/-! ## How far the register is filled -/

/-- With every byte there that it asks for, the loop leaves fewer than eight consumed bits. -/
theorem BitReader.shiftLoop_bitpos_lt {fuel : Nat} {b : BitReader} (hfuel : b.bitpos < 8 * fuel + 8)
    (hready : b.eos = true ∨ b.bytepos + b.bitpos / 8 ≤ b.input.length) : (BitReader.shiftLoop fuel b).bitpos < 8 := by
  induction fuel generalizing b with
  | zero => simpa [BitReader.shiftLoop] using hfuel
  | succ fuel ih =>
    simp only [BitReader.shiftLoop]
    by_cases h8 : 8 ≤ b.bitpos
    · have hbyte : b.byteReady = true := by
        simp only [BitReader.byteReady, Bool.or_eq_true, decide_eq_true_eq]
        exact hready.symm.imp_left fun hlen => by omega
      rw [if_pos ⟨h8, hbyte⟩]
      have hpos : b.shiftIn.bitpos = b.bitpos - 8 := rfl
      have hnext : b.shiftIn.bytepos = b.bytepos + 1 := rfl
      refine ih (by omega) (hready.imp_right fun hlen => ?_)
      have hinput : b.shiftIn.input = b.input := rfl
      rw [hinput]
      omega
    · rw [if_neg fun h => h8 h.1]
      omega

/-- R14: in the register form, bytes and consumed bits of the register end where the word at the cursor ends. -/
theorem BitReader.FormOk.bytepos_add {b : BitReader} (h : b.FormOk) : b.bytepos + b.bitpos / 8 = b.cur / 8 + 4 := by
  obtain ⟨-, hcur, -⟩ := h
  omega

theorem BitReader.RegisterOk.formOk {b : BitReader} (h : b.RegisterOk) : b.FormOk := ((b.registerOk_iff).1 h).1

/-- R132: with the byte of the cursor and the three after it, or the end of input, `BR.FILL` fills the register. -/
theorem BitReader.RegisterOk.fill_bitpos_lt {b : BitReader} (h : b.RegisterOk)
    (hready : b.eos = true ∨ b.cur / 8 + 4 ≤ b.input.length) : b.fill.bitpos < 8 := by
  obtain ⟨hinput, hcur, heos, -⟩ := b.firstFill_same
  have hfuel : b.firstFill.bitpos < 8 * (b.firstFill.bitpos / 8) + 8 := by omega
  refine BitReader.shiftLoop_bitpos_lt hfuel ?_
  rw [h.formOk.firstFill.bytepos_add, hinput, hcur, heos]
  exact hready

/-- R132: with fewer bytes and no end of input the register stays short of a byte. -/
theorem BitReader.RegisterOk.le_fill_bitpos {b : BitReader} (h : b.RegisterOk) (heos : b.eos = false)
    (hshort : b.input.length < b.cur / 8 + 4) : 8 ≤ b.fill.bitpos := by
  have hform := h.fill.formOk
  have hpos : b.fill.bytepos + b.fill.bitpos / 8 = b.cur / 8 + 4 := by simpa using hform.bytepos_add
  obtain ⟨hbytes, -, -⟩ := hform
  have hbytes : b.fill.bytepos ≤ b.input.length := by simpa [heos] using hbytes
  omega

/-! ## The first fill of a session -/

theorem BitReader.firstFill_eq {b : BitReader} (hbyte : b.bytepos = 0) (hbit : b.bitpos = 32)
    (hready : 4 ≤ b.input.length ∨ b.eos = true) :
    b.firstFill = { b with val := regWord b.input 4, bytepos := 4, bitpos := 0 } :=
  if_pos ⟨hbyte, hbit, hready⟩

/-- The first fill leaves the loop nothing to shift in. -/
theorem BitReader.fill_eq_of_first {b : BitReader} (hbyte : b.bytepos = 0) (hbit : b.bitpos = 32)
    (hready : 4 ≤ b.input.length ∨ b.eos = true) :
    b.fill = { b with val := regWord b.input 4, bytepos := 4, bitpos := 0, nvalid := min b.avail 32 - b.cur } := by
  rw [BitReader.fill, BitReader.firstFill_eq hbyte hbit hready]
  simp only [Nat.zero_div, BitReader.shiftLoop]
  rfl

/-- The first four bytes of the stream stand in the register after the first fill. -/
theorem regWord_four_byte (l : List Byte) {k : Nat} (hk : k < 4) :
    (regWord l 4 >>> (8 * k)).setWidth 8 = streamByte l k := by
  have hplace : ¬4 + k < 4 := by omega
  rw [regWord_byte l 4 hk, regByte, if_neg hplace, Nat.add_sub_cancel_left]

/-! ## The operation -/

theorem exec_brFill (s : State) : exec .brFill s = execBrFill s := rfl

theorem exec_brFill_of_lt {s : State} (h : s.br.fill.bitpos < 8) : exec .brFill s = .next { s with br := s.br.fill } := by
  simp only [exec_brFill, execBrFill, BitReader.filled, h, decide_true, if_true]

theorem exec_brFill_of_le {s : State} (h : 8 ≤ s.br.fill.bitpos) :
    (s.br.srcErr = true → exec .brFill s = .next (s.raise .sourceFailed 0)) ∧
    (s.br.srcErr = false → exec .brFill s = .next (s.hold .brFill)) := by
  refine ⟨fun herr => ?_, fun herr => ?_⟩ <;>
    simp [exec_brFill, execBrFill, BitReader.filled, Nat.not_lt.2 h, herr]

/-- Settles O11: `fill_same`, the first fill, and the bounds on `BR.BITPOS` after the fill. -/
theorem fillKeepsCursor : Obligations.FillKeepsCursor := by
  refine ⟨BitReader.fill_same, fun b hbyte hbit hready => ?_, fun s hreg => ⟨fun hready => ?_, fun heos hshort => ?_⟩⟩
  · rw [BitReader.fill_eq_of_first hbyte hbit hready]
    exact ⟨rfl, rfl, rfl, fun k hk => regWord_four_byte b.input hk⟩
  · have hlt := hreg.fill_bitpos_lt hready
    obtain ⟨-, hcur, -⟩ := hreg.fill.formOk
    exact ⟨exec_brFill_of_lt hlt, hlt, by simpa using hcur⟩
  · exact exec_brFill_of_le (hreg.le_fill_bitpos heos hshort)

end Sys2Proof.Machine
end

section
/-! PROOF. The canonical code of a length array (R150, R151, R153): its order, its codewords as neighbouring intervals of the code
space, and its keys. -/

namespace Sys2Proof

/-! ## Used symbols (R150) -/

theorem mem_usedSyms {lens : List Nat} {sym l : Nat} : (sym, l) ∈ usedSyms lens ↔ lens[sym]? = some l ∧ l ≠ 0 := by
  simp only [usedSyms, List.mem_filterMap, List.mem_zipIdx_iff_getElem?]
  constructor
  · rintro ⟨⟨l', sym'⟩, hget, hsome⟩
    split at hsome
    · cases hsome
    · next hl =>
      cases hsome
      exact ⟨hget, hl⟩
  · rintro ⟨hget, hl⟩
    exact ⟨(l, sym), hget, if_neg hl⟩

/-- R150: the lengths of the used symbols, in symbol order. -/
theorem map_snd_usedSyms (lens : List Nat) : (usedSyms lens).map Prod.snd = lens.filter (· ≠ 0) := by
  have hmap : (usedSyms lens).map Prod.snd = (lens.zipIdx.map Prod.fst).filter (· ≠ 0) := by
    rw [usedSyms, List.map_filterMap, List.filter_map, ← List.filterMap_eq_map, List.filterMap_filter]
    congr 1
    funext p
    by_cases h : p.1 = 0 <;> simp [h]
  rw [hmap, List.zipIdx_map_fst]

theorem usedSyms_eq_nil_iff {lens : List Nat} : usedSyms lens = [] ↔ ∀ l ∈ lens, l = 0 := by
  rw [← List.map_eq_nil_iff (f := Prod.snd), map_snd_usedSyms]
  simp

/-- R151: the code space is a sum over the used lengths. -/
theorem codeSpace_eq_sum (lens : List Nat) : codeSpace lens = ((lens.filter (· ≠ 0)).map fun l => 2 ^ (15 - l)).sum := by
  rw [← map_snd_usedSyms, List.map_map]
  rfl

theorem usedSyms_pairwise (lens : List Nat) : (usedSyms lens).Pairwise fun p q => p.1 < q.1 := by
  refine List.pairwise_filterMap.2 ?_
  have hidx : lens.zipIdx.Pairwise fun p q => p.2 < q.2 := by
    rw [← List.pairwise_map (f := Prod.snd), List.zipIdx_map_snd]
    exact List.pairwise_lt_range'
  refine hidx.imp fun {p q} hlt a ha b hb => ?_
  split at ha <;> cases ha
  split at hb <;> cases hb
  exact hlt

/-! ## The canonical order (R153) -/

theorem mem_canonOrder {lens : List Nat} (hlens : ∀ l ∈ lens, l ≤ 15) {p : Nat × Nat} :
    p ∈ canonOrder lens ↔ p ∈ usedSyms lens := by
  obtain ⟨sym, l⟩ := p
  simp only [canonOrder, List.mem_flatMap, List.mem_filter, List.mem_range'_1, beq_iff_eq, Config.maxCodeLen]
  constructor
  · rintro ⟨l', -, hmem, -⟩
    exact hmem
  · intro hmem
    obtain ⟨hget, hpos⟩ := mem_usedSyms.1 hmem
    have hle := hlens l (List.mem_of_getElem? hget)
    exact ⟨l, by omega, hmem, rfl⟩

/-- R153: by length, and by symbol value within a length. -/
theorem canonOrder_pairwise (lens : List Nat) :
    (canonOrder lens).Pairwise fun p q => p.2 < q.2 ∨ (p.2 = q.2 ∧ p.1 < q.1) := by
  refine List.pairwise_flatMap.2 ⟨fun l _ => ?_, ?_⟩
  · have hsyms := (usedSyms_pairwise lens).filter fun p => p.2 == l
    refine hsyms.imp_of_mem fun {p q} hp hq hlt => .inr ⟨?_, hlt⟩
    rw [beq_iff_eq.1 (List.mem_filter.1 hp).2, beq_iff_eq.1 (List.mem_filter.1 hq).2]
  · have hlens : (List.range' 1 Config.maxCodeLen).Pairwise (· < ·) := List.pairwise_lt_range'
    refine hlens.imp fun {l m} hlt p hp q hq => .inl ?_
    rwa [beq_iff_eq.1 (List.mem_filter.1 hp).2, beq_iff_eq.1 (List.mem_filter.1 hq).2]

theorem canonOrder_perm_usedSyms {lens : List Nat} (hlens : ∀ l ∈ lens, l ≤ 15) :
    (canonOrder lens).Perm (usedSyms lens) := by
  have hcanon : (canonOrder lens).Nodup :=
    (canonOrder_pairwise lens).imp fun {p q} h => by rintro rfl; omega
  have hused : (usedSyms lens).Nodup :=
    (usedSyms_pairwise lens).imp fun {p q} h => by rintro rfl; omega
  exact (List.perm_ext_iff_of_nodup hcanon hused).2 fun p => mem_canonOrder hlens

theorem canonOrder_len_le (lens : List Nat) : ∀ p ∈ canonOrder lens, p.2 ≤ 15 := by
  intro p hp
  simp only [canonOrder, List.mem_flatMap, List.mem_filter, List.mem_range'_1, beq_iff_eq, Config.maxCodeLen] at hp
  obtain ⟨l, hl, -, hpl⟩ := hp
  omega

theorem canonOrder_len_le_sorted (lens : List Nat) : (canonOrder lens).Pairwise fun p q => p.2 ≤ q.2 :=
  (canonOrder_pairwise lens).imp fun h => by omega

/-! ## Codewords as intervals of the code space (R151, R153)

A codeword of `l` bits stands for the words of 15 bits that start with it, first bit highest: the interval of `2^(15-l)` numbers
from `start` on. The recurrence of R153 lays these intervals side by side. -/

/-- The part of the code space that a codeword fills, in units of `2^-15`. -/
def Coded.weight (c : Coded) : Nat := 2 ^ (15 - c.len)

/-- The first word of 15 bits that starts with the codeword. -/
def Coded.start (c : Coded) : Nat := c.code * c.weight

theorem Coded.weight_pos (c : Coded) : 0 < c.weight := Nat.two_pow_pos _

/-- The intervals of the codewords lie side by side, the first one from `x` on. -/
def Adjacent : Nat → List Coded → Prop
  | _, [] => True
  | x, c :: cs => c.start = x ∧ Adjacent (x + c.weight) cs

/-- The code space that a list of codewords fills. -/
def totalWeight (cs : List Coded) : Nat := (cs.map Coded.weight).sum

@[simp] theorem totalWeight_nil : totalWeight [] = 0 := rfl

@[simp] theorem totalWeight_cons (c : Coded) (cs : List Coded) : totalWeight (c :: cs) = c.weight + totalWeight cs := by
  simp [totalWeight]

theorem Adjacent.of_append {x : Nat} {pre cs : List Coded} (h : Adjacent x (pre ++ cs)) :
    Adjacent (x + totalWeight pre) cs := by
  induction pre generalizing x with
  | nil => exact h
  | cons c pre ih =>
    have := ih h.2
    rwa [totalWeight_cons, ← Nat.add_assoc]

/-- A codeword starts where the ones before it end. -/
theorem Adjacent.start_eq {x : Nat} {pre post : List Coded} {c : Coded} (h : Adjacent x (pre ++ c :: post)) :
    c.start = x + totalWeight pre :=
  h.of_append.1

theorem Adjacent.bounds {x : Nat} {cs : List Coded} (h : Adjacent x cs) {c : Coded} (hc : c ∈ cs) :
    x ≤ c.start ∧ c.start + c.weight ≤ x + totalWeight cs := by
  induction cs generalizing x with
  | nil => cases hc
  | cons d cs ih =>
    obtain ⟨hd, hcs⟩ := h
    rw [totalWeight_cons]
    cases hc with
    | head => omega
    | tail _ hc =>
      have := ih hcs hc
      omega

theorem Adjacent.pairwise {x : Nat} {cs : List Coded} (h : Adjacent x cs) :
    cs.Pairwise fun c d => c.start + c.weight ≤ d.start := by
  induction cs generalizing x with
  | nil => exact .nil
  | cons c cs ih =>
    obtain ⟨hc, hcs⟩ := h
    refine .cons (fun d hd => ?_) (ih hcs)
    have := (hcs.bounds hd).1
    omega

/-! ## The recurrence (R153) -/

theorem map_assignCodes (next l : Nat) (ps : List (Nat × Nat)) :
    (assignCodes next l ps).map (fun c => (c.sym, c.len)) = ps := by
  induction ps generalizing next l with
  | nil => rfl
  | cons p ps ih => simp [assignCodes, ih]

theorem assignCodes_code_succ {next l : Nat} {ps : List (Nat × Nat)} {i : Nat} {c d : Coded}
    (hc : (assignCodes next l ps)[i]? = some c) (hd : (assignCodes next l ps)[i + 1]? = some d) :
    d.code = (c.code + 1) <<< (d.len - c.len) := by
  induction ps generalizing next l i with
  | nil => cases hc
  | cons p ps ih =>
    rw [assignCodes, List.getElem?_cons_succ] at hd
    cases i with
    | succ i => exact ih hc hd
    | zero =>
      cases hc
      cases ps with
      | nil => cases hd
      | cons q ps => cases hd; rfl

/-- A codeword shifted to a longer length starts at the same place of the code space. -/
theorem shiftLeft_mul_weight (v : Nat) {l l' : Nat} (h : l ≤ l') (h' : l' ≤ 15) :
    v <<< (l' - l) * 2 ^ (15 - l') = v * 2 ^ (15 - l) := by
  rw [Nat.shiftLeft_eq, Nat.mul_assoc, ← Nat.pow_add]
  congr 2
  omega

theorem assignCodes_adjacent {next l : Nat} {ps : List (Nat × Nat)} (hl : ∀ p ∈ ps, l ≤ p.2) (hle : ∀ p ∈ ps, p.2 ≤ 15)
    (hsorted : ps.Pairwise fun p q => p.2 ≤ q.2) : Adjacent (next * 2 ^ (15 - l)) (assignCodes next l ps) := by
  induction ps generalizing next l with
  | nil => trivial
  | cons p ps ih =>
    obtain ⟨s, l'⟩ := p
    obtain ⟨hfirst, hsorted⟩ := List.pairwise_cons.1 hsorted
    have hstart := shiftLeft_mul_weight next (hl _ (List.mem_cons_self ..)) (hle _ (List.mem_cons_self ..))
    have hrest := ih (next := next <<< (l' - l) + 1) hfirst (fun p hp => hle p (List.mem_cons_of_mem _ hp)) hsorted
    refine ⟨hstart, ?_⟩
    rwa [Nat.succ_mul, hstart] at hrest

/-! ## The canonical code (R153) -/

theorem map_canonicalCode (lens : List Nat) : (canonicalCode lens).map (fun c => (c.sym, c.len)) = canonOrder lens :=
  map_assignCodes 0 0 _

theorem mem_canonicalCode_iff {lens : List Nat} (hlens : ∀ l ∈ lens, l ≤ 15) {sym l : Nat} :
    (∃ c ∈ canonicalCode lens, c.sym = sym ∧ c.len = l) ↔ lens[sym]? = some l ∧ l ≠ 0 := by
  rw [← mem_usedSyms, ← mem_canonOrder hlens, ← map_canonicalCode, List.mem_map]
  simp only [Prod.mk.injEq]

theorem canonicalCode_pairwise (lens : List Nat) :
    (canonicalCode lens).Pairwise fun c d => c.len < d.len ∨ (c.len = d.len ∧ c.sym < d.sym) := by
  have horder := canonOrder_pairwise lens
  rw [← map_canonicalCode, List.pairwise_map] at horder
  exact horder

theorem canonicalCode_sorted (lens : List Nat) : (canonicalCode lens).Pairwise fun c d => c.len ≤ d.len :=
  (canonicalCode_pairwise lens).imp fun h => by omega

theorem canonicalCode_len_le {lens : List Nat} {c : Coded} (hc : c ∈ canonicalCode lens) : c.len ≤ 15 := by
  refine canonOrder_len_le lens (c.sym, c.len) ?_
  rw [← map_canonicalCode]
  exact List.mem_map_of_mem (f := fun c : Coded => (c.sym, c.len)) hc

theorem canonicalCode_adjacent (lens : List Nat) : Adjacent 0 (canonicalCode lens) := by
  have h := assignCodes_adjacent (next := 0) (l := 0) (fun _ _ => Nat.zero_le _) (canonOrder_len_le lens)
    (canonOrder_len_le_sorted lens)
  rwa [Nat.zero_mul] at h

theorem totalWeight_canonicalCode {lens : List Nat} (hlens : ∀ l ∈ lens, l ≤ 15) :
    totalWeight (canonicalCode lens) = codeSpace lens := by
  have hmap : (canonicalCode lens).map Coded.weight = (canonOrder lens).map fun p => 2 ^ (15 - p.2) := by
    rw [← map_canonicalCode, List.map_map]
    rfl
  rw [totalWeight, hmap]
  exact ((canonOrder_perm_usedSyms hlens).map _).sum_nat

theorem canonicalCode_first {lens : List Nat} {c : Coded} (hc : (canonicalCode lens)[0]? = some c) : c.code = 0 := by
  rw [canonicalCode] at hc
  cases hps : canonOrder lens with
  | nil =>
    rw [hps] at hc
    cases hc
  | cons p ps =>
    rw [hps] at hc
    cases hc
    exact Nat.zero_shiftLeft _

/-- R153: where the code space is filled, the last codeword ends at its end. -/
theorem canonicalCode_last {lens : List Nat} (hlens : ∀ l ∈ lens, l ≤ 15) (hfull : codeSpace lens = 2 ^ 15) {c : Coded}
    (hc : (canonicalCode lens).getLast? = some c) : c.code + 1 = 2 ^ c.len := by
  obtain ⟨pre, hsplit⟩ := List.getLast?_eq_some_iff.1 hc
  have hadj := canonicalCode_adjacent lens
  have htotal := totalWeight_canonicalCode hlens
  have hlen : c.len ≤ 15 := canonicalCode_len_le (List.mem_of_getLast? hc)
  rw [hsplit] at hadj htotal
  have hstart : c.code * c.weight = 0 + totalWeight pre := hadj.start_eq
  have hend : (c.code + 1) * c.weight = 2 ^ c.len * c.weight := by
    calc (c.code + 1) * c.weight = totalWeight (pre ++ [c]) := by
          simp [Nat.succ_mul, hstart, totalWeight]
      _ = 2 ^ 15 := htotal.trans hfull
      _ = 2 ^ c.len * c.weight := by rw [Coded.weight, ← Nat.pow_add, Nat.add_sub_cancel' hlen]
  exact Nat.eq_of_mul_eq_mul_right c.weight_pos hend

/-! ## Keys (R153) -/

theorem revBits_lt (l v : Nat) : revBits l v < 2 ^ l := by
  induction l generalizing v with
  | zero => exact Nat.one_pos
  | succ l ih =>
    have hrest := ih (v / 2)
    rw [revBits, Nat.pow_succ]
    obtain hbit | hbit := Nat.mod_two_eq_zero_or_one v <;> rw [hbit] <;> omega

/-- R153: bit `j` of the reversal of `l` bits is bit `l - 1 - j`. -/
theorem testBit_revBits (l v j : Nat) : (revBits l v).testBit j = (decide (j < l) && v.testBit (l - 1 - j)) := by
  induction l generalizing v j with
  | zero => simp [revBits]
  | succ l ih =>
    rw [revBits, Nat.mul_comm, Nat.testBit_two_pow_mul_add _ (revBits_lt l (v / 2))]
    by_cases hj : j < l
    · have hsub : l + 1 - 1 - j = l - 1 - j + 1 := by omega
      rw [if_pos hj, ih, hsub, Nat.testBit_succ, decide_eq_true hj, decide_eq_true (Nat.lt_succ_of_lt hj)]
    · rw [if_neg hj]
      by_cases hjl : j = l
      · subst hjl
        simp [Nat.testBit_zero]
      · have hlow : v % 2 < 2 ^ (j - l) :=
          Nat.lt_of_lt_of_le (Nat.mod_lt v Nat.two_pos) (Nat.le_self_pow (by omega) 2)
        rw [Nat.testBit_lt_two_pow hlow, decide_eq_false (by omega), Bool.false_and]

/-- Settles O15: the equations of the canonical order and of the recurrence, and the reversal bit by bit. -/
theorem canonicalCodeComplete : Obligations.CanonicalCodeComplete := by
  intro lens hlens
  refine ⟨fun sym l => mem_canonicalCode_iff hlens, canonicalCode_pairwise lens, fun c => canonicalCode_first,
    fun i c d => assignCodes_code_succ, fun c _ j => testBit_revBits c.len c.code j, fun hsum c hc => ?_⟩
  rw [← codeSpace_eq_sum] at hsum
  exact canonicalCode_last hlens hsum hc

end Sys2Proof
end

section
/-! PROOF. The keys of a code whose codewords are neighbouring intervals (R153, R155): no index starts with two of them, and the
root level keeps the codeword that its index starts with (R154). -/

namespace Sys2Proof

/-! ## Reversals (R153) -/

/-- The low bits of a reversal are the reversal of the high bits. -/
theorem revBits_mod {m l : Nat} (h : m ≤ l) (v : Nat) : revBits l v % 2 ^ m = revBits m (v / 2 ^ (l - m)) := by
  apply Nat.eq_of_testBit_eq
  intro j
  rw [Nat.testBit_mod_two_pow, testBit_revBits, testBit_revBits, Nat.testBit_div_two_pow]
  by_cases hj : j < m
  · have hpos : m - 1 - j + (l - m) = l - 1 - j := by omega
    rw [decide_eq_true hj, decide_eq_true (Nat.lt_of_lt_of_le hj h), hpos, Bool.true_and]
  · rw [decide_eq_false hj, Bool.false_and, Bool.false_and]

theorem revBits_inj {l v w : Nat} (hv : v < 2 ^ l) (hw : w < 2 ^ l) (h : revBits l v = revBits l w) : v = w := by
  apply Nat.eq_of_testBit_eq
  intro j
  by_cases hj : j < l
  · have hbit := congrArg (fun x => x.testBit (l - 1 - j)) h
    have hback : l - 1 - (l - 1 - j) = j := by omega
    have hlt : l - 1 - j < l := by omega
    simpa only [testBit_revBits, hback, decide_eq_true hlt, Bool.true_and] using hbit
  · have hpow : 2 ^ l ≤ 2 ^ j := Nat.pow_le_pow_right Nat.two_pos (Nat.le_of_not_lt hj)
    rw [Nat.testBit_lt_two_pow (Nat.lt_of_lt_of_le hv hpow), Nat.testBit_lt_two_pow (Nat.lt_of_lt_of_le hw hpow)]

/-! ## Codes of neighbouring intervals -/

/-- Codewords of up to 15 bits in order of length, whose intervals lie side by side inside the code space. -/
structure IntervalCode (cs : List Coded) : Prop where
  len_le : ∀ c ∈ cs, c.len ≤ 15
  sorted : cs.Pairwise fun c d => c.len ≤ d.len
  adjacent : Adjacent 0 cs
  fits : totalWeight cs ≤ 2 ^ 15

theorem canonicalCode_intervalCode {lens : List Nat} (hlens : ∀ l ∈ lens, l ≤ 15) (hfull : codeSpace lens = 2 ^ 15) :
    IntervalCode (canonicalCode lens) :=
  ⟨fun _ => canonicalCode_len_le, canonicalCode_sorted lens, canonicalCode_adjacent lens,
    Nat.le_of_eq ((totalWeight_canonicalCode hlens).trans hfull)⟩

/-- The weight of the first `m` bits of a codeword is the weight of the codeword times the number of its continuations. -/
theorem Coded.pow_eq_mul_weight {c : Coded} {m : Nat} (hm : m ≤ c.len) (hc : c.len ≤ 15) :
    2 ^ (15 - m) = 2 ^ (c.len - m) * c.weight := by
  rw [Coded.weight, ← Nat.pow_add]
  congr 1
  omega

theorem Coded.start_div {c : Coded} {m : Nat} (hm : m ≤ c.len) (hc : c.len ≤ 15) :
    c.start / 2 ^ (15 - m) = c.code / 2 ^ (c.len - m) := by
  rw [c.pow_eq_mul_weight hm hc, Coded.start, Nat.mul_div_mul_right _ _ c.weight_pos]

theorem IntervalCode.code_lt {cs : List Coded} (hcs : IntervalCode cs) {c : Coded} (hc : c ∈ cs) : c.code < 2 ^ c.len := by
  obtain ⟨-, hend⟩ := hcs.adjacent.bounds hc
  refine Nat.lt_of_mul_lt_mul_right (a := c.weight) ?_
  calc c.code * c.weight < c.start + c.weight := Nat.lt_add_of_pos_right c.weight_pos
    _ ≤ 2 ^ (15 - 0) := by have := hcs.fits; omega
    _ = 2 ^ c.len * c.weight := c.pow_eq_mul_weight (Nat.zero_le _) (hcs.len_le c hc)

theorem IntervalCode.disjoint {cs : List Coded} (hcs : IntervalCode cs) {c d : Coded} (hc : c ∈ cs) (hd : d ∈ cs)
    (hne : c ≠ d) : c.start + c.weight ≤ d.start ∨ d.start + d.weight ≤ c.start := by
  have hpairs : cs.Pairwise fun c d => c.start + c.weight ≤ d.start ∨ d.start + d.weight ≤ c.start :=
    hcs.adjacent.pairwise.imp .inl
  have hsymm : Std.Symm fun c d : Coded => c.start + c.weight ≤ d.start ∨ d.start + d.weight ≤ c.start :=
    ⟨fun _ _ h => h.symm⟩
  exact hpairs.forall hc hd hne

/-- A codeword that starts with another one starts inside the other one's interval. -/
theorem Coded.start_of_code_div {c d : Coded} (hlen : c.len ≤ d.len) (hd : d.len ≤ 15)
    (hfirst : d.code / 2 ^ (d.len - c.len) = c.code) : c.start ≤ d.start ∧ d.start < c.start + c.weight := by
  rw [← Coded.start_div hlen hd] at hfirst
  change d.start / c.weight = c.code at hfirst
  rw [Coded.start, ← hfirst]
  exact ⟨Nat.div_mul_le_self _ _, Nat.lt_div_mul_add c.weight_pos⟩

/-- The index `x` starts with the bits of the codeword (R153, R154). -/
def Coded.Matches (c : Coded) (x : Nat) : Prop := x % 2 ^ c.len = c.key

theorem Coded.key_lt (c : Coded) : c.key < 2 ^ c.len := revBits_lt _ _

/-- The first bits of an index determine the first bits of the codeword it starts with. -/
theorem Coded.Matches.mod {c : Coded} {x m : Nat} (h : c.Matches x) (hm : m ≤ c.len) :
    x % 2 ^ m = revBits m (c.code / 2 ^ (c.len - m)) := by
  rw [← revBits_mod hm, ← Nat.mod_mod_of_dvd x (Nat.pow_dvd_pow 2 hm), h]
  rfl

theorem IntervalCode.eq_of_matches_of_len_le {cs : List Coded} (hcs : IntervalCode cs) {c d : Coded} (hc : c ∈ cs)
    (hd : d ∈ cs) {x : Nat} (hcx : c.Matches x) (hdx : d.Matches x) (hlen : c.len ≤ d.len) : c = d := by
  have hfirst : d.code / 2 ^ (d.len - c.len) = c.code := by
    refine revBits_inj ?_ (hcs.code_lt hc) ((hdx.mod hlen).symm.trans hcx)
    refine Nat.div_lt_of_lt_mul ?_
    rw [← Nat.pow_add, Nat.sub_add_cancel hlen]
    exact hcs.code_lt hd
  obtain ⟨hle, hlt⟩ := Coded.start_of_code_div hlen (hcs.len_le d hd) hfirst
  have hpos := d.weight_pos
  by_contra hne
  have := hcs.disjoint hc hd hne
  omega

/-- R158: no index starts with two codewords. -/
theorem IntervalCode.eq_of_matches {cs : List Coded} (hcs : IntervalCode cs) {c d : Coded} (hc : c ∈ cs) (hd : d ∈ cs)
    {x : Nat} (hcx : c.Matches x) (hdx : d.Matches x) : c = d := by
  rcases Nat.le_total c.len d.len with h | h
  · exact hcs.eq_of_matches_of_len_le hc hd hcx hdx h
  · exact (hcs.eq_of_matches_of_len_le hd hc hdx hcx h).symm

/-! ## The root level (R154) -/

theorem getElem?_placeRoot_of_matches {r k : Nat} {es : List Entry} {c : Coded} (hlen : c.len ≤ r) (hc : c.Matches k)
    (hk : k < es.length) : (placeRoot r es c)[k]? = some (.terminal c.len c.sym) := by
  rw [placeRoot, if_pos hlen, List.getElem?_mapIdx, List.getElem?_eq_getElem hk, Option.map_some]
  exact congrArg some (if_pos hc)

theorem getElem?_placeRoot_of_not {r k : Nat} {es : List Entry} {c : Coded} (hc : ¬(c.len ≤ r ∧ c.Matches k)) :
    (placeRoot r es c)[k]? = es[k]? := by
  rw [placeRoot]
  split
  · next hlen =>
    have hkey : ¬k % 2 ^ c.len = c.key := fun h => hc ⟨hlen, h⟩
    simp only [List.getElem?_mapIdx, hkey, if_false, Option.map_id']
  · rfl

@[simp] theorem length_placeRoot (r : Nat) (es : List Entry) (c : Coded) : (placeRoot r es c).length = es.length := by
  rw [placeRoot]
  split
  · exact List.length_mapIdx
  · rfl

/-- The root level of a code. -/
def rootLevel (r : Nat) (cs : List Coded) : List Entry := cs.foldl (placeRoot r) (List.replicate (2 ^ r) (.terminal 0 0))

@[simp] theorem length_foldl_placeRoot (r : Nat) (cs : List Coded) (es : List Entry) :
    (cs.foldl (placeRoot r) es).length = es.length := by
  induction cs generalizing es with
  | nil => rfl
  | cons c cs ih => rw [List.foldl_cons, ih, length_placeRoot]

@[simp] theorem length_rootLevel (r : Nat) (cs : List Coded) : (rootLevel r cs).length = 2 ^ r := by
  simp [rootLevel]

/-- An index that starts with no other codeword keeps the entry of the one it starts with. -/
theorem getElem?_foldl_placeRoot_of_placed {r k : Nat} {cs : List Coded} {es : List Entry} {c : Coded}
    (hplaced : es[k]? = some (.terminal c.len c.sym)) (hlen : c.len ≤ r) (huniq : ∀ d ∈ cs, d.Matches k → d = c) :
    (cs.foldl (placeRoot r) es)[k]? = some (.terminal c.len c.sym) := by
  induction cs generalizing es with
  | nil => exact hplaced
  | cons d cs ih =>
    refine ih ?_ fun e he => huniq e (List.mem_cons_of_mem _ he)
    by_cases hd : d.Matches k
    · obtain rfl := huniq d (List.mem_cons_self ..) hd
      exact getElem?_placeRoot_of_matches hlen hd (List.getElem?_eq_some_iff.1 hplaced).1
    · rwa [getElem?_placeRoot_of_not fun h => hd h.2]

theorem getElem?_foldl_placeRoot_of_mem {r k : Nat} {cs : List Coded} {es : List Entry} {c : Coded} (hmem : c ∈ cs)
    (hlen : c.len ≤ r) (hc : c.Matches k) (hk : k < es.length) (huniq : ∀ d ∈ cs, d.Matches k → d = c) :
    (cs.foldl (placeRoot r) es)[k]? = some (.terminal c.len c.sym) := by
  obtain ⟨pre, post, rfl⟩ := List.append_of_mem hmem
  rw [List.foldl_append, List.foldl_cons]
  refine getElem?_foldl_placeRoot_of_placed (getElem?_placeRoot_of_matches hlen hc ?_) hlen fun d hd => huniq d ?_
  · rwa [length_foldl_placeRoot]
  · exact List.mem_append_right _ (List.mem_cons_of_mem _ hd)

/-- R154: an index of the root level that starts with a codeword of the root level holds its symbol. -/
theorem IntervalCode.getElem?_rootLevel {cs : List Coded} (hcs : IntervalCode cs) {r k : Nat} {c : Coded} (hc : c ∈ cs)
    (hlen : c.len ≤ r) (hk : k < 2 ^ r) (hmatch : c.Matches k) :
    (rootLevel r cs)[k]? = some (.terminal c.len c.sym) :=
  getElem?_foldl_placeRoot_of_mem hc hlen hmatch (by rwa [List.length_replicate]) fun _ hd hdk =>
    hcs.eq_of_matches hd hc hdk hmatch

theorem foldl_placeRoot_ne_redirect {r : Nat} {cs : List Coded} {es : List Entry}
    (h : ∀ w base, Entry.redirect w base ∉ es) (w base : Nat) : Entry.redirect w base ∉ cs.foldl (placeRoot r) es := by
  induction cs generalizing es with
  | nil => exact h w base
  | cons c cs ih =>
    refine ih fun w base hmem => ?_
    obtain ⟨k, hk⟩ := List.mem_iff_getElem?.1 hmem
    by_cases hplace : c.len ≤ r ∧ c.Matches k
    · have hlen := (List.getElem?_eq_some_iff.1 hk).1
      rw [getElem?_placeRoot_of_matches hplace.1 hplace.2 (by simpa using hlen)] at hk
      cases hk
    · rw [getElem?_placeRoot_of_not hplace] at hk
      exact h w base (List.mem_of_getElem? hk)

/-- The root level has no redirects before the second level is built. -/
theorem rootLevel_ne_redirect (r : Nat) (cs : List Coded) (k w base : Nat) :
    (rootLevel r cs)[k]? ≠ some (.redirect w base) := fun h =>
  foldl_placeRoot_ne_redirect (fun _ _ hmem => by cases (List.mem_replicate.1 hmem).2) w base (List.mem_of_getElem? h)

end Sys2Proof
end

section
/-! PROOF. The width of a sub-table (R156) holds every codeword that shares its root index. -/

namespace Sys2Proof

/-! ## What the codewords of some lengths fill -/

/-- The code space that the codewords with a length from `l` up to, not including, `m` fill. -/
def weightBetween (l m : Nat) (cs : List Coded) : Nat :=
  totalWeight (cs.filter fun c => decide (l ≤ c.len ∧ c.len < m))

theorem weightBetween_cons (l m : Nat) (c : Coded) (cs : List Coded) :
    weightBetween l m (c :: cs) = (if l ≤ c.len ∧ c.len < m then c.weight else 0) + weightBetween l m cs := by
  by_cases h : l ≤ c.len ∧ c.len < m <;> simp [weightBetween, h]

theorem weightBetween_eq_succ {l m : Nat} (h : l < m) (cs : List Coded) :
    weightBetween l m cs = (cs.filter fun c => c.len == l).length * 2 ^ (15 - l) + weightBetween (l + 1) m cs := by
  induction cs with
  | nil => simp [weightBetween]
  | cons c cs ih =>
    rw [weightBetween_cons, weightBetween_cons, ih, List.filter_cons]
    by_cases hl : c.len = l
    · have hin : l ≤ c.len ∧ c.len < m := by omega
      have hout : ¬(l + 1 ≤ c.len ∧ c.len < m) := by omega
      have hweight : c.weight = 2 ^ (15 - l) := by rw [Coded.weight, hl]
      rw [if_pos hin, if_neg hout, if_pos (beq_iff_eq.2 hl), List.length_cons, Nat.succ_mul, hweight]
      omega
    · have hiff : (l ≤ c.len ∧ c.len < m) ↔ (l + 1 ≤ c.len ∧ c.len < m) := by omega
      simp only [hiff, beq_iff_eq, hl, if_false]
      omega

/-- What comes before a codeword in order of length fills at least what the shorter codewords fill. -/
theorem weightBetween_le_of_sorted {l : Nat} {pre post : List Coded} {d : Coded}
    (hsorted : (pre ++ d :: post).Pairwise fun c d => c.len ≤ d.len) :
    weightBetween l d.len (pre ++ d :: post) ≤ totalWeight pre := by
  have hlong : (d :: post).filter (fun c => decide (l ≤ c.len ∧ c.len < d.len)) = [] := by
    rw [List.filter_eq_nil_iff]
    intro c hc
    have hle : d.len ≤ c.len := by
      cases hc with
      | head => exact Nat.le_refl _
      | tail _ hc => exact List.rel_of_pairwise_cons (List.pairwise_append.1 hsorted).2.1 hc
    rw [decide_eq_true_eq]
    omega
  rw [weightBetween, List.filter_append, hlong, List.append_nil]
  exact (List.filter_sublist.map Coded.weight).sum_le_sum fun _ _ => Nat.zero_le _

/-! ## The loop of R156 -/

/-- R156: one turn of the loop: it stops at this length, or places are left and it goes on. -/
theorem subWidth_cases (r : Nat) (rem : List Coded) (fuel l : Nat) (left : Int) :
    (subWidth r rem (fuel + 1) l left = l - r ∧
      (15 ≤ l ∨ left - ((rem.filter fun c => c.len == l).length : Int) ≤ 0)) ∨
    (l < 15 ∧ subWidth r rem (fuel + 1) l left =
      subWidth r rem fuel (l + 1) (2 * (left - ((rem.filter fun c => c.len == l).length : Int)))) := by
  rw [subWidth]
  split
  · next hlt =>
    dsimp only
    split
    · next hle => exact .inl ⟨rfl, .inr hle⟩
    · exact .inr ⟨hlt, rfl⟩
  · next hge => exact .inl ⟨rfl, .inl (Nat.le_of_not_lt hge)⟩

theorem subWidth_le (r : Nat) (rem : List Coded) (fuel : Nat) {l : Nat} (left : Int) (hl : l ≤ 15) :
    subWidth r rem fuel l left ≤ 15 - r := by
  induction fuel generalizing l left with
  | zero => exact Nat.sub_le_sub_right hl r
  | succ fuel ih =>
    obtain ⟨hstop, -⟩ | ⟨hlt, hgo⟩ := subWidth_cases r rem fuel l left
    · exact hstop ▸ Nat.sub_le_sub_right hl r
    · exact hgo ▸ ih _ hlt

theorem le_subWidth (r : Nat) (rem : List Coded) (fuel l : Nat) (left : Int) : l - r ≤ subWidth r rem fuel l left := by
  induction fuel generalizing l left with
  | zero => exact Nat.le_refl _
  | succ fuel ih =>
    obtain ⟨hstop, -⟩ | ⟨-, hgo⟩ := subWidth_cases r rem fuel l left
    · exact hstop.ge
    · exact hgo ▸ Nat.le_trans (by omega) (ih (l + 1) _)

/-- R156: while the codewords shorter than `m` leave space of the `left` places of length `l`, the loop goes on to `m`. -/
theorem le_subWidth_of_space {r : Nat} {rem : List Coded} {fuel l m : Nat} {left : Int} (hlm : l ≤ m) (hm : m ≤ 15)
    (hfuel : m ≤ l + fuel) (hspace : (weightBetween l m rem : Int) < left * 2 ^ (15 - l)) :
    m - r ≤ subWidth r rem fuel l left := by
  induction fuel generalizing l left with
  | zero => exact Nat.sub_le_sub_right hfuel r
  | succ fuel ih =>
    obtain rfl | hlt := Nat.eq_or_lt_of_le hlm
    · exact le_subWidth ..
    rw [weightBetween_eq_succ hlt, Nat.cast_add, Nat.cast_mul, Nat.cast_pow] at hspace
    have hleft : (weightBetween (l + 1) m rem : Int) <
        (left - ((rem.filter fun c => c.len == l).length : Int)) * 2 ^ (15 - l) := by
      rw [sub_mul]
      exact lt_sub_iff_add_lt'.2 hspace
    obtain ⟨-, hge | hle⟩ | ⟨-, hgo⟩ := subWidth_cases r rem fuel l left
    · omega
    · have hneg := mul_nonpos_of_nonpos_of_nonneg hle (pow_nonneg (show (0 : Int) ≤ 2 by decide) (15 - l))
      omega
    · rw [hgo]
      refine ih hlt (by omega) ?_
      have hpow : (2 : Int) ^ (15 - l) = 2 * 2 ^ (15 - (l + 1)) := by
        rw [← pow_succ']
        congr 1
        omega
      rwa [hpow, ← mul_assoc, mul_comm _ 2] at hleft

end Sys2Proof
end

section
/-! PROOF. The second level (R155): while the codewords longer than the root width are placed in canonical order, sub-tables stay
disjoint and every codeword placed stays where its index is. -/

namespace Sys2Proof

/-! ## Places in the second level -/

/-- R155: the root index of a codeword longer than the root width. -/
def Coded.low (r : Nat) (c : Coded) : Nat := c.key % 2 ^ r

/-- R155: the bits of a codeword after the root index. -/
def Coded.high (r : Nat) (c : Coded) : Nat := c.key / 2 ^ r

theorem Coded.low_lt (r : Nat) (c : Coded) : c.low r < 2 ^ r := Nat.mod_lt _ (Nat.two_pow_pos r)

/-- An index of `r` root bits and then sub-table bits starts with the codeword where both parts do. -/
theorem Coded.matches_low_add {r : Nat} {c : Coded} (hr : r ≤ c.len) {j : Nat} (hj : j % 2 ^ (c.len - r) = c.high r) :
    c.Matches (c.low r + 2 ^ r * j) := by
  have hpow : 2 ^ c.len = 2 ^ r * 2 ^ (c.len - r) := by rw [← Nat.pow_add, Nat.add_sub_cancel' hr]
  have hlow := c.low_lt r
  rw [Coded.Matches, hpow, Nat.mod_mul, Nat.add_mul_mod_self_left, Nat.mod_eq_of_lt hlow,
    Nat.add_mul_div_left _ _ (Nat.two_pow_pos r), Nat.div_eq_of_lt hlow, Nat.zero_add, hj]
  exact Nat.mod_add_div _ _

/-- R155: place a codeword in the sub-table of width `w` at `base`. -/
def placeSub (r : Nat) (c : Coded) (w base : Nat) (es : List Entry) : List Entry :=
  es.mapIdx fun k e =>
    if base ≤ k ∧ k < base + 2 ^ w ∧ (k - base) % 2 ^ (c.len - r) = c.high r then .terminal (c.len - r) c.sym else e

/-- R155: open a sub-table of width `w` for a codeword, behind all entries. -/
def openSub (r : Nat) (c : Coded) (w : Nat) (es : List Entry) : List Entry :=
  es.set (c.low r) (.redirect w es.length) ++ List.replicate (2 ^ w) (.terminal 0 0)

/-- R156: the width of the sub-table that a codeword opens. -/
def openWidth (r : Nat) (c : Coded) (rest : List Coded) : Nat := subWidth r (c :: rest) 15 c.len (2 ^ (c.len - r))

theorem placeSubs_cons_same (r w base : Nat) (es : List Entry) (c : Coded) (rest : List Coded) :
    placeSubs r (some (c.low r, w, base)) es (c :: rest) =
      placeSubs r (some (c.low r, w, base)) (placeSub r c w base es) rest := by
  rw [placeSubs]
  simp only [Coded.low, if_true]
  rfl

theorem placeSubs_cons_open {r : Nat} {cur : Option (Nat × Nat × Nat)} {es : List Entry} {c : Coded} {rest : List Coded}
    (hcur : ∀ w base, cur ≠ some (c.low r, w, base)) :
    placeSubs r cur es (c :: rest) = placeSubs r (some (c.low r, openWidth r c rest, es.length))
      (placeSub r c (openWidth r c rest) es.length (openSub r c (openWidth r c rest) es)) rest := by
  cases cur with
  | none => rfl
  | some p =>
    obtain ⟨l, w, base⟩ := p
    rw [placeSubs]
    have hl : ¬l = c.key % 2 ^ r := fun h => hcur w base (by rw [h]; rfl)
    simp only [hl, if_false]
    rfl

@[simp] theorem length_placeSub (r : Nat) (c : Coded) (w base : Nat) (es : List Entry) :
    (placeSub r c w base es).length = es.length :=
  List.length_mapIdx

@[simp] theorem length_openSub (r : Nat) (c : Coded) (w : Nat) (es : List Entry) :
    (openSub r c w es).length = es.length + 2 ^ w := by
  simp [openSub]

theorem getElem?_placeSub_of_not {r w base k : Nat} {c : Coded} {es : List Entry}
    (h : ¬(base ≤ k ∧ k < base + 2 ^ w ∧ (k - base) % 2 ^ (c.len - r) = c.high r)) :
    (placeSub r c w base es)[k]? = es[k]? := by
  simp only [placeSub, List.getElem?_mapIdx, h, if_false, Option.map_id']

theorem getElem?_placeSub_of_high {r w base j : Nat} {c : Coded} {es : List Entry} (hj : j < 2 ^ w)
    (hlen : base + 2 ^ w ≤ es.length) (hhigh : j % 2 ^ (c.len - r) = c.high r) :
    (placeSub r c w base es)[base + j]? = some (.terminal (c.len - r) c.sym) := by
  have hk : base + j < es.length := by omega
  have hplace : base ≤ base + j ∧ base + j < base + 2 ^ w ∧ (base + j - base) % 2 ^ (c.len - r) = c.high r :=
    ⟨by omega, by omega, by rwa [Nat.add_sub_cancel_left]⟩
  rw [placeSub, List.getElem?_mapIdx, List.getElem?_eq_getElem hk, Option.map_some, if_pos hplace]

theorem getElem?_openSub_low {r w : Nat} {c : Coded} {es : List Entry} (h : 2 ^ r ≤ es.length) :
    (openSub r c w es)[c.low r]? = some (.redirect w es.length) := by
  have hlow := c.low_lt r
  rw [openSub, List.getElem?_append_left (by rw [List.length_set]; omega), List.getElem?_set_self (by omega)]

theorem getElem?_openSub_of_ne {r w k : Nat} {c : Coded} {es : List Entry} (hk : k < es.length) (hne : k ≠ c.low r) :
    (openSub r c w es)[k]? = es[k]? := by
  rw [openSub, List.getElem?_append_left (by rwa [List.length_set]), List.getElem?_set_ne hne.symm]

/-! ## Tables with some codewords placed -/

/-- The codeword stands in the sub-table that its root index names, wherever the sub-table's index starts with its bits. -/
def Placed (r : Nat) (es : List Entry) (c : Coded) : Prop :=
  ∃ w base, es[c.low r]? = some (.redirect w base) ∧ c.len ≤ r + w ∧ r + w ≤ 15 ∧
    ∀ j < 2 ^ w, j % 2 ^ (c.len - r) = c.high r → es[base + j]? = some (.terminal (c.len - r) c.sym)

/-- The entries while the second level of the code `long` over a root level is built, with the codewords `done` placed. -/
structure SubTables (r : Nat) (root : List Entry) (long done : List Coded) (es : List Entry) : Prop where
  root_le : 2 ^ r ≤ es.length
  root_kept : ∀ k < 2 ^ r, (∀ c ∈ long, c.low r ≠ k) → es[k]? = root[k]?
  in_range : ∀ k < 2 ^ r, ∀ w base, es[k]? = some (.redirect w base) → 2 ^ r ≤ base ∧ base + 2 ^ w ≤ es.length
  disjoint : ∀ k < 2 ^ r, ∀ k' < 2 ^ r, k ≠ k' → ∀ w base w' base', es[k]? = some (.redirect w base) →
    es[k']? = some (.redirect w' base') → base + 2 ^ w ≤ base' ∨ base' + 2 ^ w' ≤ base
  placed : ∀ c ∈ done, Placed r es c

theorem subTables_root {r : Nat} {root : List Entry} (hlen : root.length = 2 ^ r)
    (hroot : ∀ k w base : Nat, root[k]? ≠ some (.redirect w base)) (long : List Coded) : SubTables r root long [] root where
  root_le := hlen.ge
  root_kept _ _ _ := rfl
  in_range k _ w base h := absurd h (hroot k w base)
  disjoint k _ _ _ _ w base _ _ h := absurd h (hroot k w base)
  placed _ hc := nomatch hc

/-- R155: a sub-table opened for a root index that no placed codeword has. -/
theorem SubTables.of_openSub {r : Nat} {root es : List Entry} {long done : List Coded} (h : SubTables r root long done es)
    {c : Coded} (hc : c ∈ long) (hnew : ∀ d ∈ done, d.low r ≠ c.low r) (w : Nat) :
    SubTables r root long done (openSub r c w es) := by
  have hlow := c.low_lt r
  have hkeep : ∀ k < es.length, k ≠ c.low r → (openSub r c w es)[k]? = es[k]? := fun k => getElem?_openSub_of_ne
  have hself : (openSub r c w es)[c.low r]? = some (.redirect w es.length) := getElem?_openSub_low h.root_le
  have hroot_le := h.root_le
  constructor
  case root_le =>
    rw [length_openSub]
    exact Nat.le_add_right_of_le hroot_le
  case root_kept =>
    intro k hk hlong
    rw [hkeep k (by omega) (hlong c hc).symm]
    exact h.root_kept k hk hlong
  case in_range =>
    intro k hk w' base hentry
    rw [length_openSub]
    by_cases hkl : k = c.low r
    · rw [hkl, hself] at hentry
      cases hentry
      omega
    · rw [hkeep k (by omega) hkl] at hentry
      obtain ⟨hbase, hend⟩ := h.in_range k hk w' base hentry
      exact ⟨hbase, Nat.le_add_right_of_le hend⟩
  case disjoint =>
    intro k hk k' hk' hne w₁ base₁ w₂ base₂ h₁ h₂
    by_cases hkl : k = c.low r
    · rw [hkl, hself] at h₁
      rw [hkeep k' (by omega) (hkl ▸ hne.symm)] at h₂
      cases h₁
      exact .inr (h.in_range k' hk' _ _ h₂).2
    · rw [hkeep k (by omega) hkl] at h₁
      by_cases hkl' : k' = c.low r
      · rw [hkl', hself] at h₂
        cases h₂
        exact .inl (h.in_range k hk _ _ h₁).2
      · rw [hkeep k' (by omega) hkl'] at h₂
        exact h.disjoint k hk k' hk' hne _ _ _ _ h₁ h₂
  case placed =>
    intro d hd
    obtain ⟨w', base, hentry, hlen, hwidth, hleaf⟩ := h.placed d hd
    have hdlow := d.low_lt r
    obtain ⟨hbase, hend⟩ := h.in_range _ hdlow _ _ hentry
    refine ⟨w', base, by rwa [hkeep _ (by omega) (hnew d hd)], hlen, hwidth, fun j hj hhigh => ?_⟩
    rw [hkeep _ (by omega) (by omega)]
    exact hleaf j hj hhigh

/-- R155: a codeword placed in the sub-table of its root index takes no place of another one. -/
theorem SubTables.of_placeSub {cs : List Coded} (hcs : IntervalCode cs) {r : Nat} {root es : List Entry} {long done : List Coded}
    (h : SubTables r root long done es) (hlong : ∀ d ∈ long, d ∈ cs ∧ r < d.len) (hdone : ∀ d ∈ done, d ∈ long)
    {c : Coded} (hc : c ∈ long) {w base : Nat} (hentry : es[c.low r]? = some (.redirect w base)) (hlen : c.len ≤ r + w)
    (hwidth : r + w ≤ 15) :
    SubTables r root long (done ++ [c]) (placeSub r c w base es) := by
  obtain ⟨hbase, hend⟩ := h.in_range _ (c.low_lt r) _ _ hentry
  have hroot : ∀ k < 2 ^ r, (placeSub r c w base es)[k]? = es[k]? := fun k hk =>
    getElem?_placeSub_of_not (by omega)
  constructor
  case root_le =>
    rw [length_placeSub]
    exact h.root_le
  case root_kept =>
    intro k hk hne
    rw [hroot k hk]
    exact h.root_kept k hk hne
  case in_range =>
    intro k hk w' base' hentry'
    rw [hroot k hk] at hentry'
    rw [length_placeSub]
    exact h.in_range k hk w' base' hentry'
  case disjoint =>
    intro k hk k' hk' hne w₁ base₁ w₂ base₂ h₁ h₂
    rw [hroot k hk] at h₁
    rw [hroot k' hk'] at h₂
    exact h.disjoint k hk k' hk' hne _ _ _ _ h₁ h₂
  case placed =>
    intro d hd
    rw [List.mem_append, List.mem_singleton] at hd
    by_cases hdc : d = c
    · subst hdc
      exact ⟨w, base, by rwa [hroot _ (d.low_lt r)], hlen, hwidth, fun j hj hhigh => getElem?_placeSub_of_high hj hend hhigh⟩
    · have hd : d ∈ done := hd.resolve_right hdc
      obtain ⟨w', base', hentry', hlen', hwidth', hleaf⟩ := h.placed d hd
      refine ⟨w', base', by rwa [hroot _ (d.low_lt r)], hlen', hwidth', fun j hj hhigh => ?_⟩
      rw [getElem?_placeSub_of_not, hleaf j hj hhigh]
      rintro ⟨hle, hlt, hplace⟩
      by_cases hlow : d.low r = c.low r
      · rw [hlow, hentry] at hentry'
        cases hentry'
        rw [Nat.add_sub_cancel_left] at hplace
        obtain ⟨hdcs, hdr⟩ := hlong d (hdone d hd)
        obtain ⟨hccs, hcr⟩ := hlong c hc
        have hdm := Coded.matches_low_add hdr.le hhigh
        have hcm := Coded.matches_low_add hcr.le hplace
        rw [hlow] at hdm
        exact hdc (hcs.eq_of_matches hdcs hccs hdm hcm)
      · have := h.disjoint _ (d.low_lt r) _ (c.low_lt r) hlow _ _ _ _ hentry' hentry
        omega

end Sys2Proof
end

section
/-! PROOF. The order in which the second level is built (R155), and the table of a complete code (R154, R155, R158): codewords with
one root index follow each other, so that each root index opens one sub-table, wide enough for all of them. -/

namespace Sys2Proof

/-! ## Codewords longer than the root width -/

/-- Behind the codewords of the root level, the longer ones start at a root index's first word. -/
theorem Adjacent.filter_long {r x : Nat} {cs : List Coded} (h : Adjacent x cs)
    (hsorted : cs.Pairwise fun c d => c.len ≤ d.len) (hx : 2 ^ (15 - r) ∣ x) :
    ∃ y, 2 ^ (15 - r) ∣ y ∧ Adjacent y (cs.filter fun c => decide (r < c.len)) := by
  induction cs generalizing x with
  | nil => exact ⟨x, hx, trivial⟩
  | cons c cs ih =>
    obtain ⟨hfirst, hrest⟩ := List.pairwise_cons.1 hsorted
    by_cases hc : r < c.len
    · refine ⟨x, hx, ?_⟩
      rwa [List.filter_eq_self.2]
      intro d hd
      rw [decide_eq_true_eq]
      cases hd with
      | head => exact hc
      | tail _ hd => exact Nat.lt_of_lt_of_le hc (hfirst d hd)
    · rw [List.filter_cons_of_neg (by rwa [decide_eq_true_eq])]
      refine ih h.2 hrest (Nat.dvd_add hx (Nat.pow_dvd_pow 2 ?_))
      omega

/-- The root index of a codeword is the reversal of the block of `2^(15-r)` words that it starts in. -/
theorem Coded.low_eq {r : Nat} {c : Coded} (hr : r ≤ c.len) (hc : c.len ≤ 15) :
    c.low r = revBits r (c.start / 2 ^ (15 - r)) := by
  rw [Coded.start_div hr hc]
  exact revBits_mod hr c.code

theorem IntervalCode.block_lt {cs : List Coded} (hcs : IntervalCode cs) {r : Nat} (hr : r ≤ 15) {c : Coded} (hc : c ∈ cs) :
    c.start / 2 ^ (15 - r) < 2 ^ r := by
  refine Nat.div_lt_of_lt_mul ?_
  rw [← Nat.pow_add, Nat.sub_add_cancel hr]
  have hend := (hcs.adjacent.bounds hc).2
  have hfits := hcs.fits
  have hpos := c.weight_pos
  omega

/-- Codewords with one root index start in one block. -/
theorem IntervalCode.block_eq_of_low_eq {cs : List Coded} (hcs : IntervalCode cs) {r : Nat} (hr : r ≤ 15) {c d : Coded}
    (hc : c ∈ cs) (hd : d ∈ cs) (hrc : r ≤ c.len) (hrd : r ≤ d.len) (h : c.low r = d.low r) :
    c.start / 2 ^ (15 - r) = d.start / 2 ^ (15 - r) := by
  rw [Coded.low_eq hrc (hcs.len_le c hc), Coded.low_eq hrd (hcs.len_le d hd)] at h
  exact revBits_inj (hcs.block_lt hr hc) (hcs.block_lt hr hd) h

/-- A codeword ends at the end of its block, or before it. -/
theorem Coded.end_block {r : Nat} {c : Coded} (hr : r ≤ c.len) (hc : c.len ≤ 15) :
    2 ^ (15 - r) ∣ c.start + c.weight ∨ (c.start + c.weight) / 2 ^ (15 - r) = c.start / 2 ^ (15 - r) := by
  have hend : c.start + c.weight = (c.code + 1) * c.weight := (Nat.succ_mul ..).symm
  rw [hend, Coded.start, c.pow_eq_mul_weight hr hc]
  by_cases hdvd : 2 ^ (c.len - r) ∣ c.code + 1
  · exact .inl (Nat.mul_dvd_mul_right hdvd _)
  · right
    rw [Nat.mul_div_mul_right _ _ c.weight_pos, Nat.mul_div_mul_right _ _ c.weight_pos, Nat.succ_div_of_not_dvd hdvd]

/-- R156: a sub-table opened at the first word of a block is wide enough for every codeword of the block. -/
theorem IntervalCode.le_openWidth {cs : List Coded} (hcs : IntervalCode cs) {r : Nat} (hr : r ≤ 15) {c : Coded}
    {rest : List Coded} (hmem : ∀ d ∈ c :: rest, d ∈ cs ∧ r < d.len)
    (hsorted : (c :: rest).Pairwise fun c d => c.len ≤ d.len) (hadj : Adjacent c.start (c :: rest))
    (haligned : 2 ^ (15 - r) ∣ c.start) {d : Coded} (hd : d ∈ c :: rest) (hlow : d.low r = c.low r) :
    d.len ≤ r + openWidth r c rest := by
  obtain ⟨hccs, hcr⟩ := hmem c (List.mem_cons_self ..)
  obtain ⟨hdcs, hdr⟩ := hmem d hd
  have hdlen := hcs.len_le d hdcs
  have hcd : c.len ≤ d.len := by
    cases hd with
    | head => exact Nat.le_refl _
    | tail _ hd => exact List.rel_of_pairwise_cons hsorted hd
  obtain ⟨pre, post, hsplit⟩ := List.append_of_mem hd
  rw [hsplit] at hadj hsorted
  have hbefore : weightBetween c.len d.len (c :: rest) ≤ totalWeight pre := hsplit ▸ weightBetween_le_of_sorted hsorted
  have hstart : d.start = c.start + totalWeight pre := hadj.start_eq
  have hblock : d.start < c.start + 2 ^ (15 - r) := by
    have hlt := Nat.lt_div_mul_add (a := d.start) (Nat.two_pow_pos (15 - r))
    rwa [hcs.block_eq_of_low_eq hr hdcs hccs hdr.le hcr.le hlow, Nat.div_mul_cancel haligned] at hlt
  have hspace : weightBetween c.len d.len (c :: rest) < 2 ^ (c.len - r) * 2 ^ (15 - c.len) := by
    have hpow : 2 ^ (15 - r) = 2 ^ (c.len - r) * 2 ^ (15 - c.len) := c.pow_eq_mul_weight hcr.le (hcs.len_le c hccs)
    omega
  have hwidth : d.len - r ≤ openWidth r c rest := le_subWidth_of_space hcd hdlen (by omega) (by exact_mod_cast hspace)
  omega

/-! ## The order of R155 -/

/-- The sub-table `cur` while the codewords `rem` are left to place, the next of which starts at `x`: inside a block it is the
sub-table of that block, and it is wide enough for the codewords left with its root index. -/
structure Cursor (r x : Nat) (cur : Option (Nat × Nat × Nat)) (es : List Entry) (rem : List Coded) : Prop where
  block : 2 ^ (15 - r) ∣ x ∨ ∃ w base, cur = some (revBits r (x / 2 ^ (15 - r)), w, base)
  opened : ∀ l w base, cur = some (l, w, base) → es[l]? = some (.redirect w base) ∧ r + w ≤ 15 ∧
    ∀ d ∈ rem, d.low r = l → d.len ≤ r + w

/-- The cursor behind a codeword just placed. -/
theorem cursor_of_placed {r w base : Nat} {c : Coded} {es : List Entry} {rest : List Coded} (hr : r ≤ c.len) (hc : c.len ≤ 15)
    (hentry : es[c.low r]? = some (.redirect w base)) (hwidth : r + w ≤ 15)
    (hwide : ∀ d ∈ rest, d.low r = c.low r → d.len ≤ r + w) :
    Cursor r (c.start + c.weight) (some (c.low r, w, base)) es rest where
  block := (Coded.end_block hr hc).imp_right fun h => ⟨w, base, by rw [h, Coded.low_eq hr hc]⟩
  opened l w' base' h := by
    cases h
    exact ⟨hentry, hwidth, hwide⟩

/-- R155: at the first word of a block no codeword placed before has the block's root index. -/
theorem IntervalCode.low_ne_of_aligned {cs : List Coded} (hcs : IntervalCode cs) {r : Nat} (hr : r ≤ 15) {c d : Coded}
    (hc : c ∈ cs) (hd : d ∈ cs) (hrc : r ≤ c.len) (hrd : r ≤ d.len) (haligned : 2 ^ (15 - r) ∣ c.start)
    (hbefore : d.start + d.weight ≤ c.start) : d.low r ≠ c.low r := by
  intro h
  have hblock := hcs.block_eq_of_low_eq hr hd hc hrd hrc h
  have hlt : d.start / 2 ^ (15 - r) < c.start / 2 ^ (15 - r) := by
    refine Nat.div_lt_of_lt_mul ?_
    rw [Nat.mul_div_cancel' haligned]
    have := d.weight_pos
    omega
  omega

/-- R155: building the second level places every codeword longer than the root width. -/
theorem IntervalCode.subTables_placeSubs {cs : List Coded} (hcs : IntervalCode cs) {r : Nat} (hr : r ≤ 15) {root : List Entry}
    {long : List Coded} (hlong : ∀ d ∈ long, d ∈ cs ∧ r < d.len) (hsorted : long.Pairwise fun c d => c.len ≤ d.len)
    {x : Nat} {done rem : List Coded} {cur : Option (Nat × Nat × Nat)} {es : List Entry} (hsplit : done ++ rem = long)
    (hdone : ∀ d ∈ done, d.start + d.weight ≤ x) (hadj : Adjacent x rem) (htables : SubTables r root long done es)
    (hcursor : Cursor r x cur es rem) : SubTables r root long long (placeSubs r cur es rem) := by
  induction rem generalizing x done cur es with
  | nil =>
    rw [List.append_nil] at hsplit
    rw [← hsplit] at htables ⊢
    exact htables
  | cons c rest ih =>
    obtain ⟨rfl, hrest⟩ := hadj
    have hdonelong : ∀ d ∈ done, d ∈ long := fun d hd => hsplit ▸ List.mem_append_left _ hd
    have hremlong : ∀ d ∈ c :: rest, d ∈ long := fun d hd => hsplit ▸ List.mem_append_right _ hd
    have hclong := hremlong c (List.mem_cons_self ..)
    obtain ⟨hccs, hcr⟩ := hlong c hclong
    have hclen := hcs.len_le c hccs
    -- Both branches of R155 place the codeword in the sub-table of its root index, and go on with the rest.
    have hplace : ∀ w base es', SubTables r root long done es' → es'[c.low r]? = some (.redirect w base) → r + w ≤ 15 →
        (∀ d ∈ c :: rest, d.low r = c.low r → d.len ≤ r + w) →
        SubTables r root long long (placeSubs r (some (c.low r, w, base)) (placeSub r c w base es') rest) := by
      intro w base es' htables' hentry hwidth hwide
      have hbase := (htables'.in_range _ (c.low_lt r) _ _ hentry).1
      have hlow := c.low_lt r
      refine ih (by rw [List.append_assoc]; exact hsplit) ?_ hrest
        (htables'.of_placeSub hcs hlong hdonelong hclong hentry (hwide c (List.mem_cons_self ..) rfl) hwidth)
        (cursor_of_placed hcr.le hclen ?_ hwidth fun d hd => hwide d (List.mem_cons_of_mem _ hd))
      · intro d hd
        rw [List.mem_append, List.mem_singleton] at hd
        obtain hd | rfl := hd
        · exact Nat.le_add_right_of_le (hdone d hd)
        · exact Nat.le_refl _
      · rwa [getElem?_placeSub_of_not (by omega)]
    by_cases hsame : ∃ w base, cur = some (c.low r, w, base)
    · obtain ⟨w, base, rfl⟩ := hsame
      obtain ⟨hentry, hwidth, hwide⟩ := hcursor.opened _ _ _ rfl
      rw [placeSubs_cons_same]
      exact hplace w base es htables hentry hwidth hwide
    · have haligned : 2 ^ (15 - r) ∣ c.start := by
        refine hcursor.block.resolve_right fun hopen => hsame ?_
        rwa [Coded.low_eq hcr.le hclen]
      have hnew : ∀ d ∈ done, d.low r ≠ c.low r := fun d hd =>
        have hdl := hlong d (hdonelong d hd)
        hcs.low_ne_of_aligned hr hccs hdl.1 hcr.le hdl.2.le haligned (hdone d hd)
      have hremsorted := (List.pairwise_append.1 (hsplit ▸ hsorted)).2.1
      have hwidth : openWidth r c rest ≤ 15 - r := subWidth_le _ _ _ _ hclen
      rw [placeSubs_cons_open fun w base h => hsame ⟨w, base, h⟩]
      exact hplace _ _ _ (htables.of_openSub hclong hnew _) (getElem?_openSub_low htables.root_le) (by omega) fun d hd hlow =>
        hcs.le_openWidth hr (fun d hd => hlong d (hremlong d hd)) hremsorted ⟨rfl, hrest⟩ haligned hd hlow

/-! ## The table of a complete code (R154, R155) -/

theorem IntervalCode.subTables {cs : List Coded} (hcs : IntervalCode cs) {r : Nat} (hr : r ≤ 15) :
    SubTables r (rootLevel r cs) (cs.filter fun c => decide (r < c.len)) (cs.filter fun c => decide (r < c.len))
      (placeSubs r none (rootLevel r cs) (cs.filter fun c => decide (r < c.len))) := by
  obtain ⟨y, hy, hadj⟩ := hcs.adjacent.filter_long (r := r) hcs.sorted (Nat.dvd_zero _)
  have hlong : ∀ d ∈ cs.filter fun c => decide (r < c.len), d ∈ cs ∧ r < d.len := fun d hd => by
    simpa using hd
  exact hcs.subTables_placeSubs hr hlong (hcs.sorted.filter _) (List.nil_append _) (fun _ hd => nomatch hd) hadj
    (subTables_root (length_rootLevel r cs) (rootLevel_ne_redirect r cs) _) ⟨.inl hy, fun _ _ _ h => nomatch h⟩

theorem Coded.matches_key_add (c : Coded) (rest : Nat) : c.Matches (c.key + 2 ^ c.len * rest) := by
  rw [Coded.Matches, add_pow_mul_mod c.key_lt]

theorem Coded.Matches.mod_two_pow {c : Coded} {x m : Nat} (h : c.Matches x) (hm : c.len ≤ m) : c.Matches (x % 2 ^ m) := by
  rw [Coded.Matches, Nat.mod_mod_of_dvd x (Nat.pow_dvd_pow 2 hm), h]

/-- A word that starts with a codeword longer than the root width has its root index. -/
theorem Coded.Matches.mod_root {c : Coded} {x r : Nat} (h : c.Matches x) (hr : r ≤ c.len) : x % 2 ^ r = c.low r := by
  rw [Coded.low, ← h, Nat.mod_mod_of_dvd x (Nat.pow_dvd_pow 2 hr)]

/-- A word that starts with a codeword has the codeword's further bits in its sub-table index. -/
theorem Coded.Matches.div_root {c : Coded} {x r w : Nat} (h : c.Matches x) (hr : r ≤ c.len) (hw : c.len ≤ r + w) :
    x / 2 ^ r % 2 ^ w % 2 ^ (c.len - r) = c.high r := by
  have hpow : 2 ^ c.len = 2 ^ r * 2 ^ (c.len - r) := by rw [← Nat.pow_add, Nat.add_sub_cancel' hr]
  rw [Nat.mod_mod_of_dvd _ (Nat.pow_dvd_pow 2 (by omega)), Coded.high, ← h, hpow, Nat.mod_mul_right_div_self]

/-- The root index of a longer codeword starts with no codeword of the root level. -/
theorem IntervalCode.not_matches_low {cs : List Coded} (hcs : IntervalCode cs) {r : Nat} {c d : Coded} (hc : c ∈ cs)
    (hd : d ∈ cs) (hcr : c.len ≤ r) (hrd : r < d.len) : ¬c.Matches (d.low r) := by
  intro hlow
  have hkey : c.Matches d.key := by
    rwa [Coded.Matches, Coded.low, Nat.mod_mod_of_dvd d.key (Nat.pow_dvd_pow 2 hcr)] at hlow
  have heq := hcs.eq_of_matches hc hd hkey (Nat.mod_eq_of_lt d.key_lt)
  subst heq
  omega

/-- R158: in the table of a code, a word that starts with a codeword is looked up as its symbol, with one drop of its length. -/
theorem lookupSym_fullTable {lens : List Nat} {r : Nat} (hr : r ≤ 15) (hcode : IntervalCode (canonicalCode lens)) {c : Coded}
    (hc : c ∈ canonicalCode lens) {x : Nat} (hx : c.Matches x) :
    ∃ n, lookupSym (fullTable r lens) x = some (c.sym, [⟨n, c.len⟩]) ∧ n ≤ 15 := by
  have htables := hcode.subTables hr
  by_cases hlen : c.len ≤ r
  · have hroot : x % 2 ^ r < 2 ^ r := Nat.mod_lt _ (Nat.two_pow_pos r)
    have hmatch := hx.mod_two_pow hlen
    refine ⟨r, lookupSym_of_terminal ?_, hr⟩
    refine (htables.root_kept _ hroot fun d hd hlow => ?_).trans (hcode.getElem?_rootLevel hc hlen hroot hmatch)
    obtain ⟨hdcs, hdr⟩ := List.mem_filter.1 hd
    exact hcode.not_matches_low hc hdcs hlen (of_decide_eq_true hdr) (hlow ▸ hmatch)
  · have hrlen : r ≤ c.len := by omega
    obtain ⟨w, base, hentry, hw, hwidth, hleaf⟩ :=
      htables.placed c (List.mem_filter.2 ⟨hc, decide_eq_true (Nat.lt_of_not_le hlen)⟩)
    have hsub := hleaf _ (Nat.mod_lt _ (Nat.two_pow_pos w)) (hx.div_root hrlen hw)
    rw [← hx.mod_root hrlen] at hentry
    refine ⟨r + w, ?_, hwidth⟩
    have hlookup := lookupSym_of_redirect (t := fullTable r lens) hentry hsub
    rwa [show (fullTable r lens).rootBits + (c.len - r) = c.len from Nat.add_sub_cancel' hrlen] at hlookup

/-! ## What `HT.BUILD` answers (R150, R151, R157) -/

theorem buildTable_of_nil {lens : List Nat} (r : Nat) (h : usedSyms lens = []) : buildTable lens r = .error 1 := by
  rw [buildTable, h]

theorem buildTable_of_single {lens : List Nat} (r : Nat) {p : Nat × Nat} (h : usedSyms lens = [p]) :
    buildTable lens r = .ok (singleTable r p.1) := by
  rw [buildTable, h]

theorem buildTable_of_two_le {lens : List Nat} (r : Nat) (h : 2 ≤ (usedSyms lens).length) :
    buildTable lens r = if codeSpace lens = 2 ^ 15 then .ok (fullTable r lens) else .error 2 := by
  rw [buildTable]
  split
  · next hnil => simp [hnil] at h
  · next p hp => simp [hp] at h
  · rfl

/-- Settles O14: the table is that of a complete code, and the word starts with the codeword. -/
theorem canonicalCodeDecodes : Obligations.CanonicalCodeDecodes := by
  intro lens r t hr hlens htwo hbuild c hc rest
  rw [buildTable_of_two_le r htwo] at hbuild
  split at hbuild
  · next hfull =>
    cases hbuild
    exact lookupSym_fullTable hr (canonicalCode_intervalCode hlens hfull) hc (c.matches_key_add rest)
  · cases hbuild

end Sys2Proof
end

section
/-! PROOF. `HT.BUILD` as an operation (R150, R151, R157). -/

namespace Sys2Proof.Machine

theorem exec_htBuild (s : State) (src : LenSrc) (a r : Nat) : exec (.htBuild src a r) s = execHtBuild src a r s := rfl

theorem exec_htBuild_of_ok {s : State} {src : LenSrc} {a r : Nat} {t : Table} (h : buildTable (s.lensOf src a) r = .ok t) :
    exec (.htBuild src a r) s = .next { s with ht := { s.ht with out := some t } } := by
  rw [exec_htBuild, execHtBuild, h]

theorem exec_htBuild_of_error {s : State} {src : LenSrc} {a r e : Nat} (h : buildTable (s.lensOf src a) r = .error e) :
    exec (.htBuild src a r) s = .next (s.raise .malformedHuffman e) := by
  rw [exec_htBuild, execHtBuild, h]

/-- Settles O13: the answer of `buildTable` by the number of used symbols and the code space they fill. -/
theorem buildTableValidity : Obligations.BuildTableValidity := by
  intro s src a r
  rw [← codeSpace_eq_sum]
  refine ⟨fun hnone => ?_, fun sym l hone => ?_, fun htwo hspace => ?_, fun htwo hspace => ?_, fun e ref => ?_⟩
  · exact exec_htBuild_of_error (buildTable_of_nil r (usedSyms_eq_nil_iff.2 hnone))
  · exact exec_htBuild_of_ok (buildTable_of_single r hone)
  · exact exec_htBuild_of_error ((buildTable_of_two_le r htwo).trans (if_neg hspace))
  · exact ⟨fullTable r _, rfl, exec_htBuild_of_ok ((buildTable_of_two_le r htwo).trans (if_pos hspace))⟩
  · exact lookupTable_afterFault s.free s.ht ref

end Sys2Proof.Machine
end

section
/-! PROOF. `HD.SYM` and the naming of a built table (R15, R131, R166, R167). -/

namespace Sys2Proof

theorem PerCat.get_set_self {α : Type} (p : PerCat α) (c : Cat) (v : α) : (p.set c v).get c = v := by
  cases c <;> rfl

/-- R157: a single-symbol table answers its symbol at every index, with no bit to consume. -/
theorem lookupSym_singleTable (n sym w : Nat) : lookupSym (singleTable n sym) w = some (sym, [⟨n, 0⟩]) := by
  have hindex : w % 2 ^ n < 2 ^ n := Nat.mod_lt _ (Nat.two_pow_pos n)
  exact lookupSym_of_terminal (t := singleTable n sym) (List.getElem?_replicate_of_lt hindex)

end Sys2Proof

namespace Sys2Proof.Machine

/-! ## The table of a name (R15) -/

theorem storeAt_getElem?_self {l : List Table} {i : Nat} (t : Table) (h : i ≤ l.length) : (storeAt l i t)[i]? = some t := by
  rw [storeAt]
  split
  · next hlt => exact List.getElem?_set_self hlt
  · next hge =>
    obtain rfl : i = l.length := by omega
    exact List.getElem?_concat_length

theorem runAct_store_of_built {s : State} {t : Table} (r : TableRef) (h : s.ht.out = some t) :
    runAct (.store r) s = .next { s with ht := storeTable s.ht r t } := by
  obtain ⟨t', hout, heq⟩ | ⟨hout, -⟩ := s.storeBuilt_cases r
  · obtain rfl : t' = t := Option.some.inj (hout.symm.trans h)
    exact heq
  · rw [hout] at h
    cases h

/-! ## The read of a codeword (R166, R167) -/

theorem BitReader.takeAll_singleton (p : Config.Params) (b : BitReader) (f : Field) :
    BitReader.takeAll p b [f] = b.fill.take p f := by
  simp only [BitReader.takeAll]
  cases b.fill.take p f <;> rfl

/-- R135: a read that consumes nothing can be held, but cannot fault. -/
theorem BitReader.take_of_noDrop {p : Config.Params} {b : BitReader} {n : Nat} (h : b.need p n ≠ .hold) :
    b.take p ⟨n, 0⟩ = .ok (b.advance 0) := by
  obtain ⟨hheld, -⟩ | ⟨-, hdrop, -⟩ | ⟨-, hdrop, -⟩ | ⟨-, -, hok⟩ := b.take_cases p ⟨n, 0⟩
  · exact absurd hheld h
  · exact absurd rfl hdrop
  · exact absurd rfl hdrop
  · exact hok

theorem BitReader.take_of_hold {p : Config.Params} {b : BitReader} {f : Field} (h : b.need p f.need = .hold) :
    b.take p f = .hold := by
  simp only [BitReader.take, h]

/-- R166: `HD.SYM` of a valid table does what the reads of the codeword answer. -/
theorem exec_hdSym_of_lookup {s : State} {r : TableRef} {t : Table} {sym : Nat} {fs : List Field}
    (htable : lookupTable s.ht r = some t) (hsym : lookupSym t (s.br.peek fetchBits) = some (sym, fs)) :
    exec (.hdSym r) s = s.onTaken (.hdSym r) (BitReader.takeAll s.par s.br fs) (State.returnPeek sym) := by
  have hexec : exec (.hdSym r) s = execHdSym r s := rfl
  simp only [hexec, execHdSym, State.readSym, htable, hsym]

/-- Settles O16: `HD.SYM` does what the reads of the codeword answer (`exec_hdSym_of_lookup`), a codeword being one field. -/
theorem symbolRead : Obligations.SymbolRead := by
  refine ⟨fun s r t sym fs b htable hsym htake => ?_, fun s r n sym htable hneed => ?_,
    fun s r t sym n d htable hsym => ?_, fun s r t hout => runAct_store_of_built r hout, fun h t c i => ?_⟩
  · obtain ⟨hinput, -, -, hcur, -⟩ := BitReader.takeAll_ok htake
    refine ⟨?_, hcur, hinput⟩
    rw [exec_hdSym_of_lookup htable hsym, htake]
    rfl
  · have htake : s.br.fill.take s.par ⟨n, 0⟩ = .ok (s.br.fill.advance 0) :=
      BitReader.take_of_noDrop (by rwa [BitReader.fill_need])
    refine ⟨s.br.fill.advance 0, ?_, s.br.fill_cur, s.br.fill_input⟩
    rw [exec_hdSym_of_lookup htable (lookupSym_singleTable n sym _), BitReader.takeAll_singleton, htake]
    rfl
  · rw [exec_hdSym_of_lookup htable hsym, BitReader.takeAll_singleton]
    refine ⟨fun heos herr hd hshort => ?_, fun herr hd hn hshort => ?_, fun heos herr hn hshort => ?_⟩
    · have htake : s.br.fill.take s.par ⟨n, d⟩ = .fail .truncatedInput s.br.fill :=
        BitReader.take_truncated (by simpa) (by simpa) hd (by simpa)
      exact ⟨s.br.fill, by rw [htake]; rfl, s.br.fill_cur, s.br.fill_input⟩
    · have htake : s.br.fill.take s.par ⟨n, d⟩ = .fail .sourceFailed s.br.fill :=
        BitReader.take_sourceFailed (by simpa) hd hn (by simpa)
      exact ⟨s.br.fill, by rw [htake]; rfl, s.br.fill_cur, s.br.fill_input⟩
    · have htake : s.br.fill.take s.par ⟨n, d⟩ = .hold :=
        BitReader.take_of_hold (BitReader.need_of_open hn (by simpa) (by simpa) (by simpa))
      rw [htake]
      rfl
  · exact ⟨PerCat.get_set_self h.bt c (some t), PerCat.get_set_self h.bl c (some t), rfl, rfl,
      storeAt_getElem?_self t, storeAt_getElem?_self t, storeAt_getElem?_self t⟩

end Sys2Proof.Machine
end

section
/-! PROOF. The description of a code and its simple form (R168 to R171). -/

namespace Sys2Proof

/-- R7: `bitlen(v)` is the least `w` with `v < 2^w`. -/
theorem bitlen_eq_of_pow_le {v w : Nat} (hv : v < 2 ^ 64) (hlow : 2 ^ (w - 1) ≤ v) (hhigh : v < 2 ^ w) : bitlen v = w := by
  have hpos : 0 < v := Nat.lt_of_lt_of_le (Nat.two_pow_pos _) hlow
  cases w with
  | zero => omega
  | succ k =>
    have hlog : Nat.log 2 v = k := Nat.log_eq_of_pow_le_of_lt_pow hlow hhigh
    rw [bitlen, bitlenFuel_eq_log 64 hpos.ne' hv, hlog]

end Sys2Proof

namespace Sys2Proof.Machine

theorem zeroLens_getElem? {lens : List Nat} {a k : Nat} (ha : k < a) (hk : k < lens.length) :
    (zeroLens lens a)[k]? = some 0 := by
  simp [zeroLens, ha, hk]

/-- Settles O17: each step of the sequence is one assignment to the scratch and one push on the agenda. -/
theorem readCodeSequence : Obligations.ReadCodeSequence := by
  intro s a skip
  exact ⟨rfl, fun k ha hk => zeroLens_getElem? ha hk, rfl, rfl, rfl, rfl, rfl, rfl⟩

/-! ## The checks on a simple code (R170) -/

theorem hasRepeat_iff (l : List Nat) : hasRepeat l = true ↔ ¬l.Nodup := by
  induction l with
  | nil => simp [hasRepeat]
  | cons v rest ih =>
    rw [hasRepeat, Bool.or_eq_true, ih, List.nodup_cons, List.contains_iff_mem]
    tauto

section
variable {s : State}

theorem any_outside_iff : (s.hd.syms.any fun v => decide (s.hd.a ≤ v)) = true ↔ ∃ v ∈ s.hd.syms, s.hd.a ≤ v := by
  simp only [List.any_eq_true, decide_eq_true_eq]

theorem State.simpleCheck_of_outside (h : ∃ v ∈ s.hd.syms, s.hd.a ≤ v) :
    s.simpleCheck = s.raise .malformedHuffman 3 := by
  rw [State.simpleCheck, if_pos (any_outside_iff.2 h)]

/-- R170: with every symbol inside the alphabet, what is left of the check. -/
theorem State.simpleCheck_of_inside (h : ∀ v ∈ s.hd.syms, v < s.hd.a) :
    (¬s.hd.syms.Nodup → s.simpleCheck = s.raise .malformedHuffman 4) ∧
    (s.hd.syms.Nodup → s.hd.syms.length = 4 → s.simpleCheck = s.push [.elem .treeSelect]) ∧
    (s.hd.syms.Nodup → s.hd.syms.length ≠ 4 → s.simpleCheck = s.setSimpleLens (simpleLens s.hd.syms.length)) := by
  have hrange : ¬(s.hd.syms.any fun v => decide (s.hd.a ≤ v)) = true := fun hany =>
    have ⟨v, hmem, hle⟩ := any_outside_iff.1 hany
    Nat.not_lt.2 hle (h v hmem)
  rw [State.simpleCheck, if_neg hrange]
  simp only [hasRepeat_iff]
  refine ⟨fun hrep => if_pos hrep, fun hnodup hfour => ?_, fun hnodup hfew => ?_⟩
  · rw [if_neg (not_not.2 hnodup), if_pos hfour]
  · rw [if_neg (not_not.2 hnodup), if_neg hfew]

end

/-- Settles O19: the answers of `simpleCheck`; neither the lengths nor the tie-break bit touch the session. -/
theorem simpleCodeChecks : Obligations.SimpleCodeChecks := by
  refine fun s => ⟨fun houtside => ?_, fun hinside hrep => ?_, fun hinside hnodup => ?_⟩
  · exact congrArg Host.Outcome.next (State.simpleCheck_of_outside houtside)
  · exact congrArg Host.Outcome.next ((State.simpleCheck_of_inside hinside).1 hrep)
  · obtain ⟨-, hselect, hlens⟩ := State.simpleCheck_of_inside hinside
    refine ⟨s.simpleCheck, rfl, ?_⟩
    by_cases hfour : s.hd.syms.length = 4
    · rw [hselect hnodup hfour]
      exact ⟨rfl, rfl, rfl, rfl⟩
    · rw [hlens hnodup hfour]
      exact ⟨rfl, rfl, rfl, rfl⟩

/-! ## The elements of a simple code (R169) -/

/-- R169: the lengths `ls` go to the symbols latched, in order. -/
theorem State.setSimpleLens_of_syms {s : State} {syms : List Nat} (ls : List Nat) (h : s.hd.syms = syms) :
    s.setSimpleLens ls = { s with hd := { s.hd with len := assignLens s.hd.len syms ls } } := by
  rw [State.setSimpleLens, h]

theorem exec_treeSelect_of_syms {s : State} {syms : List Nat} (t : Bool) (h : s.hd.syms = syms) :
    exec (.treeSelect t) s = .next { s with hd := { s.hd with len := assignLens s.hd.len syms (simpleLens4 t) } } :=
  congrArg Host.Outcome.next (State.setSimpleLens_of_syms (simpleLens4 t) h)

/-- R169, R170: after the check of one to three symbols, their lengths. -/
theorem runAct_simpleCheck_of_syms {s : State} {syms : List Nat} (hinside : ∀ v ∈ s.hd.syms, v < s.hd.a)
    (hnodup : s.hd.syms.Nodup) (hsyms : s.hd.syms = syms) (hfew : syms.length ≠ 4) :
    runAct .simpleCheck s = .next { s with hd := { s.hd with len := assignLens s.hd.len syms (simpleLens syms.length) } } := by
  subst hsyms
  obtain ⟨-, -, hlens⟩ := State.simpleCheck_of_inside hinside
  exact congrArg Host.Outcome.next (hlens hnodup hfew)

/-- Settles O18: the width is `bitlen` (`bitlen_eq_of_pow_le`), and the lengths are those of the number of symbols. -/
theorem simpleCodeElements : Obligations.SimpleCodeElements := by
  refine fun s n w v b => ⟨?_, fun htwo hmax hlow hhigh => ?_, rfl, fun s0 s1 s2 s3 hsyms => ⟨?_, ?_⟩,
    ⟨_, rfl, rfl, rfl, rfl⟩, fun hinside hnodup => ⟨fun s0 hsyms => ?_, fun s0 s1 hsyms => ?_, fun s0 s1 s2 hsyms => ?_,
      fun hfour => ?_⟩⟩
  · have hexec : exec (.nsym n) s = execNsym n s := rfl
    simp only [hexec, execNsym, State.push, List.append_assoc, List.singleton_append]
  · have hwidth : bitlen (s.hd.a - 1) = w := bitlen_eq_of_pow_le (by omega) hlow hhigh
    simp only [State.elemFmt, hwidth]
  · exact exec_treeSelect_of_syms false hsyms
  · exact exec_treeSelect_of_syms true hsyms
  · exact runAct_simpleCheck_of_syms hinside hnodup hsyms (by simp)
  · exact runAct_simpleCheck_of_syms hinside hnodup hsyms (by simp)
  · exact runAct_simpleCheck_of_syms hinside hnodup hsyms (by simp)
  · obtain ⟨-, hselect, -⟩ := State.simpleCheck_of_inside hinside
    exact congrArg Host.Outcome.next (hselect hnodup hfour)

end Sys2Proof.Machine
end

section
/-! PROOF. The complicated form of a code description (R171 to R176): its elements and its two loops. -/

namespace Sys2Proof.Machine

/-! ## Phase 1 (R171 to R173) -/

/-- R172: the `CLCL` element that stands for the length `v` stores it. -/
theorem exec_of_clclInstr {v : Nat} {i : Instr} (h : clclInstr v = some i) (s : State) : exec i s = .next (s.putClcl v) := by
  unfold clclInstr at h
  split at h <;> cases h <;> rfl

theorem State.clclLoop_of_going {s : State} (hplace : s.hd.i < 18) (hspace : 0 < s.hd.space) :
    s.clclLoop = s.push [.elem .clcl, .act .clclLoop] := by
  rw [State.clclLoop, if_pos ⟨hplace, hspace⟩]

/-- R173: the end of phase 1, for a code that can be built and for any other. -/
theorem State.clclLoop_of_end {s : State} (hend : 18 ≤ s.hd.i ∨ s.hd.space ≤ 0) :
    (s.hd.ncodes = 1 ∨ s.hd.space = 0 →
      s.clclLoop = s.push [.op (.htBuild .clcl 18 Config.clRootBits), .act (.store .clc), .act .clsymStart]) ∧
    (¬(s.hd.ncodes = 1 ∨ s.hd.space = 0) → s.clclLoop = s.raise .malformedHuffman 5) := by
  have hstop : ¬(s.hd.i < 18 ∧ 0 < s.hd.space) := by omega
  rw [State.clclLoop, if_neg hstop]
  exact ⟨fun hcode => if_pos hcode, fun hcode => if_neg hcode⟩

/-- Settles O20: each element is `putClcl` of its length, and the loop answers by its test. -/
theorem codeLengthCodePhase : Obligations.CodeLengthCodePhase := by
  refine ⟨fun s v i hmem => ?_, fun s => ⟨fun hplace hspace => ?_, fun hend hcode => ?_, fun hend hcodes hspace => ?_⟩⟩
  · have hrows : ∀ p ∈ [(Instr.clcl0, 0), (.clcl1, 1), (.clcl2, 2), (.clcl3, 3), (.clcl4, 4), (.clcl5, 5)],
        clclInstr p.2 = some p.1 := by decide
    rw [exec_of_clclInstr (hrows _ hmem), State.putClcl, Nat.shiftRight_eq_div_pow]
    rfl
  · exact congrArg Host.Outcome.next (State.clclLoop_of_going hplace hspace)
  · exact congrArg Host.Outcome.next ((State.clclLoop_of_end hend).1 hcode)
  · exact congrArg Host.Outcome.next ((State.clclLoop_of_end hend).2 (not_or.2 ⟨hcodes, hspace⟩))

/-! ## The code lengths below 16 (R175) -/

/-- R111: the code-length symbol `c` below 16 is the length of the next symbol. -/
theorem exec_of_clsymInstr {c : Nat} {i : Instr} (h : clsymInstr c = some i) (hc : c < 16) (s : State) :
    exec i s = .next (s.putLen c) := by
  unfold clsymInstr at h
  split at h
  case h_17 | h_18 => omega
  case h_19 => cases h
  all_goals
    cases h
    rfl

/-- Settles O21: each symbol is `putLen` of its length. -/
theorem codeLengthSymbols : Obligations.CodeLengthSymbols := by
  intro s c i hmem
  have hrows : ∀ p ∈ [(Instr.clsymLen0, 0), (.clsymLen1, 1), (.clsymLen2, 2), (.clsymLen3, 3), (.clsymLen4, 4),
      (.clsymLen5, 5), (.clsymLen6, 6), (.clsymLen7, 7), (.clsymLen8, 8), (.clsymLen9, 9), (.clsymLen10, 10), (.clsymLen11, 11),
      (.clsymLen12, 12), (.clsymLen13, 13), (.clsymLen14, 14), (.clsymLen15, 15)], clsymInstr p.2 = some p.1 ∧ p.2 < 16 := by decide
  obtain ⟨hinstr, hc⟩ := hrows _ hmem
  rw [exec_of_clsymInstr hinstr hc, State.putLen, Nat.shiftRight_eq_div_pow]

/-! ## The repeat symbols (R175) -/

theorem newRepeat_eq (rep xb x : Nat) : newRepeat rep xb x = (if 0 < rep then (rep - 2) * 2 ^ xb else 0) + x + 3 := by
  rw [newRepeat, Nat.shiftLeft_eq]
  split
  · rfl
  · next h => rw [Nat.eq_zero_of_not_pos h]

/-- R175: a run of the new count `r`, past the alphabet and inside it. -/
theorem State.putRepeat_of_count {s : State} {xb x r : Nat} (hr : newRepeat s.hd.rep xb x = r) :
    (s.hd.a < s.hd.symbol + (r - s.hd.rep) →
      s.putRepeat xb x = State.raise .malformedHuffman 6 { s with hd := { s.hd with rep := r } }) ∧
    (s.hd.symbol + (r - s.hd.rep) ≤ s.hd.a →
      s.putRepeat xb x = { s with
        hd := { s.hd with
          rep := r
          len := fillLens s.hd.len s.hd.symbol (r - s.hd.rep) s.hd.repLen
          symbol := s.hd.symbol + (r - s.hd.rep)
          space := if s.hd.repLen = 0 then s.hd.space
            else s.hd.space - (((r - s.hd.rep) * 2 ^ (15 - s.hd.repLen) : Nat) : Int) } }) := by
  subst hr
  refine ⟨fun hpast => ?_, fun hinside => ?_⟩
  · rw [State.putRepeat, if_pos hpast]
  · rw [State.putRepeat, if_neg (Nat.not_lt.2 hinside), Nat.shiftLeft_eq]
    rfl

/-- Settles O22: the extra bits are `putRepeat` of their number, with the count of `newRepeat_eq`. -/
theorem codeLengthRepeats : Obligations.CodeLengthRepeats := by
  refine fun s x => ⟨rfl, rfl, fun i xb r hmem hr => ?_⟩
  have hexec : exec i s = .next (s.putRepeat xb x) := by
    simp only [List.mem_cons, List.not_mem_nil, or_false, Prod.mk.injEq] at hmem
    obtain ⟨rfl, rfl⟩ | ⟨rfl, rfl⟩ := hmem <;> rfl
  obtain ⟨hpast, hinside⟩ := State.putRepeat_of_count ((newRepeat_eq s.hd.rep xb x).trans hr.symm)
  refine ⟨fun hlt => ⟨{ s with hd := { s.hd with rep := r } }, ?_, rfl, rfl, rfl⟩, fun hle => ?_⟩
  · rw [hexec, hpast hlt]
  · rw [hexec, hinside hle]
    rfl

/-! ## The loop of phase 2 (R174 to R176) -/

theorem State.clsymLoop_of_going {s : State} (hsymbol : s.hd.symbol < s.hd.a) (hspace : 0 < s.hd.space) :
    s.clsymLoop = s.push [.elem .clsym, .act .clsymLoop] := by
  rw [State.clsymLoop, if_pos ⟨hsymbol, hspace⟩]

/-- R176: the end of phase 2, with the space used up and not. -/
theorem State.clsymLoop_of_end {s : State} (hend : s.hd.a ≤ s.hd.symbol ∨ s.hd.space ≤ 0) :
    (s.hd.space = 0 → s.clsymLoop = s) ∧ (s.hd.space ≠ 0 → s.clsymLoop = s.raise .malformedHuffman 7) := by
  have hstop : ¬(s.hd.symbol < s.hd.a ∧ 0 < s.hd.space) := by omega
  rw [State.clsymLoop, if_neg hstop]
  exact ⟨fun hspace => if_pos hspace, fun hspace => if_neg hspace⟩

/-- Settles O23: the start is one assignment, and the loop answers by its test. -/
theorem codeLengthPhaseEnd : Obligations.CodeLengthPhaseEnd := by
  refine fun s => ⟨rfl, fun hsymbol hspace => ?_, rfl, fun hend hspace => ?_, fun hend hspace => ?_⟩
  · exact congrArg Host.Outcome.next (State.clsymLoop_of_going hsymbol hspace)
  · exact congrArg Host.Outcome.next ((State.clsymLoop_of_end hend).1 hspace)
  · exact congrArg Host.Outcome.next ((State.clsymLoop_of_end hend).2 hspace)

end Sys2Proof.Machine
end

section
/-! PROOF. The context-map decoder (R185 to R189): its header, its entries and the inverse move-to-front. -/

namespace Sys2Proof.Machine

/-! ## The header of a map (R185, R186) -/

/-- R186: with one tree the map is complete, with more the `RLE` flag follows. -/
theorem exec_ntrees (v : Nat) (s : State) :
    exec (.ntrees v) s = .next { s with
      cm := { s.cm with num := v + 1 }, todo := if v = 0 then s.todo else .elem .rleflag :: s.todo } := by
  have hexec : exec (.ntrees v) s = execNtrees v s := rfl
  rw [hexec, execNtrees]
  split
  · rfl
  · rfl

/-- Settles O24: each element is one assignment and one push; only the number of trees branches (`exec_ntrees`). -/
theorem contextMapHeader : Obligations.ContextMapHeader := by
  intro s n v m
  exact ⟨rfl, exec_ntrees v s, rfl, rfl, rfl⟩

/-! ## The entries of a map (R185, R187, R188) -/

section
variable {s : State}

theorem State.putEntry_of_inside (v : Nat) (h : s.cm.i < s.cm.m.length) :
    s.putEntry v = .next { s with cm := { s.cm with m := s.cm.m.set s.cm.i (BitVec.ofNat 8 v), i := s.cm.i + 1 } } := by
  rw [State.putEntry, if_pos h]

theorem exec_cmrun (k x : Nat) (s : State) : exec (.cmrun k x) s = execCmrun k x s := rfl

theorem exec_cmrun_of_inside {k x : Nat} (h : s.cm.i + (2 ^ k + x) ≤ s.cm.n) :
    exec (.cmrun k x) s = .next { s with cm := { s.cm with i := s.cm.i + (2 ^ k + x) } } := by
  rw [exec_cmrun, execCmrun, if_neg (Nat.not_lt.2 h)]

theorem exec_cmrun_of_past {k x : Nat} (h : s.cm.n < s.cm.i + (2 ^ k + x)) :
    exec (.cmrun k x) s = .next (s.raise .malformedHuffman 8) := by
  rw [exec_cmrun, execCmrun, if_pos h]

theorem State.cmLoop_of_going (h : s.cm.i < s.cm.n) : s.cmLoop = s.push [.elem .cmsym, .act .cmLoop] := by
  rw [State.cmLoop, if_pos h]

theorem State.cmLoop_of_full (h : s.cm.n ≤ s.cm.i) : s.cmLoop = s.push [.elem .imtf] := by
  rw [State.cmLoop, if_neg (Nat.not_lt.2 h)]

end

/-- Settles O25: the single entries are `putEntry`, a run answers by the end of the map, the loop by its test. -/
theorem contextMapEntries : Obligations.ContextMapEntries := by
  refine fun s k x => ⟨rfl, rfl, fun hinside => ⟨?_, ?_⟩, rfl, exec_cmrun_of_inside, exec_cmrun_of_past,
    fun hgoing => ?_, fun hfull => ?_⟩
  · exact State.putEntry_of_inside 0 hinside
  · exact State.putEntry_of_inside (k - s.cm.mrlp) hinside
  · exact congrArg Host.Outcome.next (State.cmLoop_of_going hgoing)
  · exact congrArg Host.Outcome.next (State.cmLoop_of_full hfull)

/-! ## The inverse move-to-front (R189)

The loop answers the front of `moveToFront` at each entry. Places of a list are read by `getD`, so that no rule needs a bound
on the place or on the entry. -/

/-- R189: `v = mtf[k]`, then `mtf[1 .. k] <- mtf[0 .. k-1]` and `mtf[0] <- v`. -/
def moveToFront (mtf : List Byte) (k : Nat) : List Byte := mtf.getD k 0 :: mtf.eraseIdx k

/-- R189: the list after the entries `m`. -/
def mtfAfter (mtf m : List Byte) : List Byte := m.foldl (fun l k => moveToFront l k.toNat) mtf

section
variable {mtf : List Byte} {j k : Nat}

@[simp] theorem moveToFront_getD_zero : (moveToFront mtf k).getD 0 0 = mtf.getD k 0 := rfl

theorem moveToFront_getD_of_le (hpos : 1 ≤ j) (hle : j ≤ k) : (moveToFront mtf k).getD j 0 = mtf.getD (j - 1) 0 := by
  obtain ⟨p, rfl⟩ := Nat.exists_eq_add_of_le' hpos
  have hp : p < k := hle
  simp only [moveToFront, List.getD_eq_getElem?_getD, List.getElem?_cons_succ, List.getElem?_eraseIdx_of_lt hp,
    Nat.add_sub_cancel]

theorem moveToFront_getD_of_lt (hlt : k < j) : (moveToFront mtf k).getD j 0 = mtf.getD j 0 := by
  obtain ⟨p, rfl⟩ := Nat.exists_eq_add_of_le' (Nat.one_le_of_lt hlt)
  have hp : k ≤ p := Nat.le_of_lt_succ hlt
  simp only [moveToFront, List.getD_eq_getElem?_getD, List.getElem?_cons_succ, List.getElem?_eraseIdx_of_ge hp]

end

theorem imtfLoop_cons (mtf : List Byte) (k : Byte) (m : List Byte) :
    imtfLoop mtf (k :: m) = mtf.getD k.toNat 0 :: imtfLoop (moveToFront mtf k.toNat) m := rfl

theorem imtfLoop_length (mtf m : List Byte) : (imtfLoop mtf m).length = m.length := by
  induction m generalizing mtf with
  | nil => rfl
  | cons k m ih => rw [imtfLoop_cons, List.length_cons, List.length_cons, ih]

/-- R189: entry `i` becomes what the list, as it stands after the entries before, holds at the entry's place. -/
theorem imtfLoop_getElem? (mtf : List Byte) {m : List Byte} {i : Nat} (hi : i < m.length) :
    (imtfLoop mtf m)[i]? = some ((mtfAfter mtf (m.take i)).getD (m.getD i 0).toNat 0) := by
  induction m generalizing mtf i with
  | nil => cases hi
  | cons k m ih =>
    cases i with
    | zero => rfl
    | succ i =>
      rw [imtfLoop_cons, List.getElem?_cons_succ, ih _ (Nat.lt_of_succ_lt_succ hi)]
      rfl

theorem mtfAfter_take_succ (mtf : List Byte) {m : List Byte} {i : Nat} (hi : i < m.length) :
    mtfAfter mtf (m.take (i + 1)) = moveToFront (mtfAfter mtf (m.take i)) (m.getD i 0).toNat := by
  rw [List.take_add_one, List.getElem?_eq_getElem hi, List.getD_eq_getElem m 0 hi]
  simp only [mtfAfter, Option.toList_some, List.foldl_append, List.foldl_cons, List.foldl_nil]

theorem mtfInit_getD {j : Nat} (hj : j < 256) : mtfInit.getD j 0 = BitVec.ofNat 8 j := by
  simp [mtfInit, List.getD_eq_getElem?_getD, hj]

/-! ### Entries below a bound -/

/-- The first `n` places of the list hold values below `n`. -/
def FrontBelow (n : Nat) (mtf : List Byte) : Prop := ∀ j < n, (mtf.getD j 0).toNat < n

theorem mtfInit_frontBelow (n : Nat) : FrontBelow n mtfInit := by
  intro j hj
  by_cases hin : j < 256
  · rw [mtfInit_getD hin, BitVec.toNat_ofNat]
    exact Nat.lt_of_le_of_lt (Nat.mod_le _ _) hj
  · exact Nat.lt_of_lt_of_le (BitVec.isLt _) (Nat.le_of_lt (Nat.lt_of_le_of_lt (Nat.not_lt.1 hin) hj))

/-- A move of a place below `n` only permutes the first `n` places. -/
theorem FrontBelow.moveToFront {n k : Nat} {mtf : List Byte} (h : FrontBelow n mtf) (hk : k < n) :
    FrontBelow n (moveToFront mtf k) := by
  intro j hj
  obtain rfl | hpos := Nat.eq_zero_or_pos j
  · rw [moveToFront_getD_zero]
    exact h k hk
  · obtain hlt | hle := Nat.lt_or_ge k j
    · rw [moveToFront_getD_of_lt hlt]
      exact h j hj
    · rw [moveToFront_getD_of_le hpos hle]
      exact h (j - 1) (Nat.lt_of_le_of_lt (Nat.sub_le _ _) hj)

theorem imtfLoop_lt {n : Nat} {mtf m : List Byte} (hmtf : FrontBelow n mtf) (hm : ∀ k ∈ m, k.toNat < n) :
    ∀ v ∈ imtfLoop mtf m, v.toNat < n := by
  induction m generalizing mtf with
  | nil => exact fun v hv => absurd hv List.not_mem_nil
  | cons k m ih =>
    obtain ⟨hk, hrest⟩ := List.forall_mem_cons.1 hm
    rw [imtfLoop_cons]
    exact List.forall_mem_cons.2 ⟨hmtf k.toNat hk, ih (hmtf.moveToFront hk) hrest⟩

/-- Settles O26: the lists `mtf` are those after the first entries (`mtfAfter`), and a move keeps `FrontBelow`. -/
theorem inverseMoveToFront : Obligations.InverseMoveToFront := by
  refine ⟨fun s => ⟨rfl, rfl, rfl⟩, fun m => ⟨imtfLoop_length mtfInit m,
    fun i j => (mtfAfter mtfInit (m.take i)).getD j 0, fun j hj => mtfInit_getD hj, ?_⟩,
    fun m n hm => imtfLoop_lt (mtfInit_frontBelow n) hm, by decide⟩
  rintro i k hi rfl
  simp only [mtfAfter_take_succ mtfInit hi]
  exact ⟨imtfLoop_getElem? mtfInit hi, moveToFront_getD_zero, fun j hpos hle => moveToFront_getD_of_le hpos hle,
    fun j hlt _ => moveToFront_getD_of_lt hlt⟩

end Sys2Proof.Machine
end

section
/-! PROOF. The window (R195 to R204): the put of a byte, the reads at a distance, and the chunk of a flush. -/

namespace Sys2Proof.Machine

/-! ## The put of a byte (R199, R241, R260) -/

/-- R199: the flush comes next exactly when the put has filled the ring. -/
theorem State.rbPut_eq (b : Byte) (after : List Todo) (s : State) :
    s.rbPut b after = { s with
      rb := s.rb.put b
      todo := (if (s.rb.pos + 1) % 2 ^ s.rb.winBits = 0 then [Todo.op .rbFlush] else []) ++ after ++ s.todo } := rfl

/-- R199, R241, R260: the three instructions that put a byte of their own are one put; they differ in what follows it. -/
theorem exec_of_putInstr {b : Byte} {i : Instr} {after : List Todo}
    (h : (i, after) ∈ [(Instr.rbPut b, []), (.rawbyte b, [Todo.act .rawDone]), (.literal b, [Todo.act .litDone])])
    (s : State) : exec i s = .next (s.rbPut b after) := by
  simp only [List.mem_cons, List.not_mem_nil, or_false, Prod.mk.injEq] at h
  obtain ⟨rfl, rfl⟩ | ⟨rfl, rfl⟩ | ⟨rfl, rfl⟩ := h
  · rfl
  · rfl
  · rfl

/-- Settles O38: the ring is that of one put, whose cells are given by the read-after-write laws of `RB.MEM`. -/
theorem putBytes : Obligations.PutBytes := by
  intro s b i after hi
  have hexec := exec_of_putInstr hi s
  rw [State.rbPut_eq] at hexec
  exact ⟨s.rb.put b, hexec, rfl, rfl, rfl, rfl,
    fun hwf => ⟨Ring.wf_put b hwf, Ring.put_read b hwf, fun _ ha => Ring.put_read_ne b hwf ha⟩⟩

/-! ## Reads at a distance (R196, R200, R201, R270) -/

section
variable {s : State} {d : Nat}

/-- R196, R200: inside the valid window a read answers its cell. -/
theorem State.rbGet_of_inside (hpos : 1 ≤ d) (hmax : d ≤ s.maxDistance) :
    s.rbGet d = .byte (memRead s.rb.mem ((s.rb.pos - d) % s.rb.size)) := if_pos ⟨hpos, hmax⟩

theorem State.rbGet_of_outside (h : ¬(1 ≤ d ∧ d ≤ s.maxDistance)) : s.rbGet d = .stop .outsideSpace := if_neg h

theorem exec_rbGet (d : Nat) (s : State) : exec (.rbGet d) s = execRbGet d s := rfl

theorem exec_rbGet_of_byte {b : Byte} (h : s.rbGet d = .byte b) : exec (.rbGet d) s = .next (s.returnVal b.toNat) := by
  rw [exec_rbGet, execRbGet, h]
  rfl

theorem exec_rbGet_of_stop {f : Fault} (h : s.rbGet d = .stop f) : exec (.rbGet d) s = .fault f := by
  rw [exec_rbGet, execRbGet, h]

theorem exec_rbCopy_zero (d : Nat) (s : State) : exec (.rbCopy d 0) s = .next s := rfl

theorem exec_rbCopy_succ (d n : Nat) (s : State) : exec (.rbCopy d (n + 1)) s = execRbCopy d (n + 1) s := rfl

/-- R201: a copy puts one byte, and the rest of the copy follows. -/
theorem exec_rbCopy_succ_of_byte {b : Byte} (n : Nat) (h : s.rbGet d = .byte b) :
    exec (.rbCopy d (n + 1)) s = .next (s.rbPut b [.op (.rbCopy d n)]) := by
  rw [exec_rbCopy_succ, execRbCopy, h]

theorem exec_cdCmdCopyWindow (s : State) : exec .cdCmdCopyWindow s = execCdCmdCopyWindow s := rfl

/-- R270: a visit of `CMD_COPY_WINDOW` puts the byte at the distance of the command. -/
theorem exec_cdCmdCopyWindow_of_byte {b : Byte} (h : s.rbGet s.cmd.dist = .byte b) :
    exec .cdCmdCopyWindow s = .next (s.rbPut b [.act .copyDone]) := by
  rw [exec_cdCmdCopyWindow, execCdCmdCopyWindow, h]

end

/-! ## The copy of a dictionary word (R274) -/

section
variable {s : State}

theorem exec_cdCmdCopyDict (s : State) : exec .cdCmdCopyDict s = execCdCmdCopyDict s := rfl

theorem exec_cdCmdCopyDict_of_end (h : s.sd.outidx = s.sd.outlen) : exec .cdCmdCopyDict s = .next (s.goto .cmdEnd) := by
  rw [exec_cdCmdCopyDict, execCdCmdCopyDict, if_pos h]

theorem exec_cdCmdCopyDict_of_byte {b : Byte} (hleft : s.sd.outidx ≠ s.sd.outlen) (hbyte : s.sd.out[s.sd.outidx]? = some b) :
    exec .cdCmdCopyDict s = .next (s.rbPut b [.act .dictDone]) := by
  rw [exec_cdCmdCopyDict, execCdCmdCopyDict, if_neg hleft, hbyte]

end

/-- Settles O40: the three reads of the window take the one answer of `rbGet`; a dictionary word ends by its index. -/
theorem windowAndDictionaryCopies : Obligations.WindowAndDictionaryCopies := by
  refine ⟨fun s d n b => ⟨exec_rbCopy_zero d s, fun houtside => ?_, fun hpos hmax hcell => ?_⟩,
    fun s b => ⟨exec_cdCmdCopyDict_of_end, exec_cdCmdCopyDict_of_byte⟩⟩
  · exact exec_rbGet_of_stop (State.rbGet_of_outside houtside)
  · have hget : s.rbGet d = .byte b := (State.rbGet_of_inside hpos hmax).trans (congrArg Got.byte hcell)
    refine ⟨exec_rbGet_of_byte hget, exec_rbCopy_succ_of_byte n hget, ?_⟩
    rintro rfl
    exact exec_cdCmdCopyWindow_of_byte hget

/-! ## The chunk of a flush (R203, R204) -/

section
variable {s : State}

theorem exec_rbFlush (s : State) : exec .rbFlush s = .next s.rbFlush := rfl

theorem State.rbFlush_of_empty (h : s.flushLen = 0) : s.rbFlush = s := if_pos h

theorem State.rbFlush_of_cells (h : s.flushLen ≠ 0) :
    s.rbFlush = { s with snk := { s.snk with offer := some (memRange s.rb.mem 0 s.flushLen) } } := if_neg h

end

/-- R203, R204: the chunk is determined by its length and by the cell at each place. -/
theorem eq_memRange {m : Mem} {n : Nat} {chunk : List Byte} (hlen : chunk.length = n)
    (hcells : ∀ k, k < n → chunk[k]? = some (memRead m k)) : chunk = memRange m 0 n := by
  refine List.ext_getElem? fun k => ?_
  by_cases hk : k < n
  · rw [hcells k hk, memRange_get m 0 n k hk, Nat.zero_add]
  · have hrange : (memRange m 0 n).length ≤ k := by simpa using hk
    rw [List.getElem?_eq_none (by omega), List.getElem?_eq_none hrange]

/-- Settles O41: with no residue a flush is the identity; else the chunk is the range of the first cells (`eq_memRange`). -/
theorem flushChunks : Obligations.FlushChunks := by
  refine fun s => ⟨fun hst hresidue => ?_, ?_⟩
  · have hlen : s.flushLen = 0 := (if_pos hst).trans hresidue
    rw [exec_rbFlush, State.rbFlush_of_empty hlen]
  · intro n chunk hn hpos hlen hcells
    have hflush : s.flushLen = n := hn.symm
    rw [exec_rbFlush, State.rbFlush_of_cells (by rwa [hflush]), hflush, eq_memRange hlen hcells]

end Sys2Proof.Machine
end

section
/-! PROOF. The static dictionary (R215 to R224): the reference and its two checks, the effect of each transform kind, and the
loop of `UppercaseAll`. -/

namespace Sys2Proof.Machine

/-! ## References (R217, R218, R219) -/

theorem exec_sdLookup (len wordId : Nat) (s : State) : exec (.sdLookup len wordId) s = .next (s.sdLookup len wordId) := rfl

/-- R217: every length of 4 to 24 has at least 32 words. -/
theorem dictBits_ne_zero {len : Nat} (hmin : 4 ≤ len) (hmax : len ≤ 24) : dictBits len ≠ 0 := by
  interval_cases len <;> decide

/-- R219: the lengths with a class of words are those from 4 to 24. -/
theorem dictLength_iff (len : Nat) : dictLength len = true ↔ 4 ≤ len ∧ len ≤ 24 := by
  rw [dictLength, Bool.and_eq_true, Bool.and_eq_true, decide_eq_true_iff, decide_eq_true_iff, decide_eq_true_iff]
  exact ⟨fun ⟨hrange, _⟩ => hrange, fun ⟨hmin, hmax⟩ => ⟨⟨hmin, hmax⟩, dictBits_ne_zero hmin hmax⟩⟩

section
variable {s : State} {len wordId : Nat}

theorem State.sdLookup_of_noClass (hlen : ¬(4 ≤ len ∧ len ≤ 24)) :
    s.sdLookup len wordId = s.raise .invalidDictionaryReference 1 := by
  rw [State.sdLookup, if_pos (Bool.eq_false_iff.mpr (mt (dictLength_iff len).mp hlen))]

theorem State.sdLookup_of_noTransform (hlen : 4 ≤ len ∧ len ≤ 24)
    (ht : s.par.transforms.length ≤ dictTransform len wordId) :
    s.sdLookup len wordId = s.raise .invalidDictionaryReference 2 := by
  have hclass := (dictLength_iff len).mpr hlen
  simp [State.sdLookup, dictResult, hclass, List.getElem?_eq_none ht]

theorem State.sdLookup_of_transform {x : Xform} {w : List Byte} (hlen : 4 ≤ len ∧ len ≤ 24)
    (hx : s.par.transforms[dictTransform len wordId]? = some x)
    (hw : w = applyXform x (dictWord len (dictIndex len wordId))) :
    s.sdLookup len wordId = { s with sd := { out := w, outlen := w.length, outidx := 0 } } := by
  have hclass := (dictLength_iff len).mpr hlen
  simp [State.sdLookup, dictResult, hclass, hx, hw]

end

/-- R217: each size class starts where the one before it ends. -/
theorem dictOff_succ {len : Nat} (hmin : 4 ≤ len) (hmax : len < 24) :
    dictOff (len + 1) = dictOff len + len * 2 ^ dictBits len := by
  interval_cases len <;> decide

/-- Settles O45: the length is checked first (`State.sdLookup_of_noClass`), then the transform index; with both in range the
word follows (`State.sdLookup_of_transform`). The size classes are facts about the table of R217. -/
theorem dictionaryLookup : Obligations.DictionaryLookup := by
  refine ⟨fun s len wid => ⟨fun hout => ?_, fun hmin hmax ht => ?_, fun hmin hmax x w hx hw => ?_⟩,
    rfl, by decide, rfl, fun _ => dictOff_succ, by decide⟩
  · rw [exec_sdLookup, State.sdLookup_of_noClass (by omega)]
  · rw [exec_sdLookup, State.sdLookup_of_noTransform ⟨hmin, hmax⟩ ht]
  · rw [exec_sdLookup, State.sdLookup_of_transform ⟨hmin, hmax⟩ hx hw]

/-! ## The operation `SD.TRANSFORM` (R222) -/

theorem exec_sdTransform_of_getElem? {s : State} {k : Nat} {x : Xform} (w : List Byte) (h : s.par.transforms[k]? = some x) :
    exec (.sdTransform w k) s = .next { s with res := { s.res with bytes := applyXform x w } } := by
  have hexec : exec (.sdTransform w k) s = s.sdTransform w k := rfl
  rw [hexec, State.sdTransform, h]

/-! ## The case change `upper` (R223) -/

/-- R223: a place past the end is not touched, by the exclusive or as by `List.set`. -/
theorem xorAt_eq_set (w : List Byte) (i : Nat) (m : Byte) : xorAt w i m = w.set i (w.getD i 0 ^^^ m) := by
  refine List.ext_getElem? fun j => ?_
  rw [xorAt, List.getElem?_modify, List.getElem?_set]
  by_cases hij : i = j
  · subst hij
    by_cases hi : i < w.length <;> simp [hi]
  · simp [hij]

@[simp] theorem xorAt_length (w : List Byte) (i : Nat) (m : Byte) : (xorAt w i m).length = w.length :=
  List.length_modify _ _ _

section
variable {w : List Byte} {i : Nat} {c : Byte}

theorem upper_of_getElem? (h : w[i]? = some c) :
    upper w i = if c.toNat < 0xC0 then (if 0x61 ≤ c.toNat ∧ c.toNat ≤ 0x7A then xorAt w i 0x20 else w, 1)
      else if c.toNat < 0xE0 then (xorAt w (i + 1) 0x20, 2) else (xorAt w (i + 2) 0x05, 3) := by
  rw [upper, List.getD_eq_getElem?_getD, h, Option.getD_some]

theorem upper_of_uncased (h : w[i]? = some c) (hc : c.toNat < 0xC0) (hletter : ¬(0x61 ≤ c.toNat ∧ c.toNat ≤ 0x7A)) :
    upper w i = (w, 1) := by
  rw [upper_of_getElem? h, if_pos hc, if_neg hletter]

theorem upper_of_lowercase (h : w[i]? = some c) (hmin : 0x61 ≤ c.toNat) (hmax : c.toNat ≤ 0x7A) :
    upper w i = (w.set i (c ^^^ 0x20), 1) := by
  have hbyte : w.getD i 0 = c := by rw [List.getD_eq_getElem?_getD, h, Option.getD_some]
  rw [upper_of_getElem? h, if_pos (by omega), if_pos ⟨hmin, hmax⟩, xorAt_eq_set, hbyte]

theorem upper_of_twoByte (h : w[i]? = some c) (hmin : 0xC0 ≤ c.toNat) (hmax : c.toNat < 0xE0) :
    upper w i = (w.set (i + 1) (w.getD (i + 1) 0 ^^^ 0x20), 2) := by
  rw [upper_of_getElem? h, if_neg (by omega), if_pos hmax, xorAt_eq_set]

theorem upper_of_threeByte (h : w[i]? = some c) (hmin : 0xE0 ≤ c.toNat) :
    upper w i = (w.set (i + 2) (w.getD (i + 2) 0 ^^^ 0x05), 3) := by
  rw [upper_of_getElem? h, if_neg (by omega), if_neg (by omega), xorAt_eq_set]

end

@[simp] theorem upper_length (w : List Byte) (i : Nat) : (upper w i).1.length = w.length := by
  simp only [upper]
  split
  · split
    · exact xorAt_length w i _
    · rfl
  · split
    · exact xorAt_length w (i + 1) _
    · exact xorAt_length w (i + 2) _

/-- R223: a character takes at least one byte, so the loop of R221 needs no more turns than the word has bytes. -/
theorem one_le_upper (w : List Byte) (i : Nat) : 1 ≤ (upper w i).2 := by
  simp only [upper]
  split
  · exact Nat.le_refl 1
  · split
    · exact Nat.le_succ 1
    · exact Nat.le_add_left 1 2

/-! ## The loop of `UppercaseAll` (R221) -/

/-- R221: one turn of the loop, on the word so far and the place reached. -/
def upperTurn (p : List Byte × Nat) : List Byte × Nat := ((upper p.1 p.2).1, p.2 + (upper p.1 p.2).2)

/-- R221: with fuel for the bytes that remain the loop ends at the first turn past the end of the word. -/
theorem upperAll_eq_iterate (fuel : Nat) {w : List Byte} {i : Nat} (hfuel : w.length ≤ i + fuel) :
    ∃ n, (∀ j, j < n → (upperTurn^[j] (w, i)).2 < w.length) ∧ w.length ≤ (upperTurn^[n] (w, i)).2 ∧
      upperAll fuel w i = (upperTurn^[n] (w, i)).1 := by
  induction fuel generalizing w i with
  | zero => exact ⟨0, fun j hj => absurd hj (Nat.not_lt_zero j), hfuel, rfl⟩
  | succ fuel ih =>
    by_cases hi : i < w.length
    · have hrest : (upper w i).1.length ≤ i + (upper w i).2 + fuel := by
        have := one_le_upper w i
        rw [upper_length]
        omega
      obtain ⟨n, hbefore, hend, heq⟩ := ih hrest
      rw [upper_length] at hbefore hend
      refine ⟨n + 1, fun j hj => ?_, hend, by rw [upperAll, if_pos hi, heq]; rfl⟩
      cases j with
      | zero => exact hi
      | succ j => exact hbefore j (Nat.lt_of_succ_lt_succ hj)
    · exact ⟨0, fun j hj => absurd hj (Nat.not_lt_zero j), Nat.le_of_not_lt hi, by rw [upperAll, if_neg hi]; rfl⟩

theorem upperAll_length (fuel : Nat) (w : List Byte) (i : Nat) : (upperAll fuel w i).length = w.length := by
  induction fuel generalizing w i with
  | zero => rfl
  | succ fuel ih =>
    rw [upperAll]
    split
    · rw [ih, upper_length]
    · rfl

/-! ## The transform kinds (R221, R222) -/

theorem applyKind_uppercaseFirst_cons (c : Byte) (w : List Byte) :
    applyKind .uppercaseFirst (c :: w) = (upper (c :: w) 0).1 := rfl

/-- R221: no kind makes a word longer. -/
theorem applyKind_length_le (k : XformKind) (w : List Byte) : (applyKind k w).length ≤ w.length := by
  cases k with
  | identity => exact Nat.le_refl _
  | omitLast n => exact List.length_take_le' _ _
  | omitFirst n => exact (List.drop_sublist n w).length_le
  | uppercaseFirst =>
    cases w with
    | nil => exact Nat.le_refl _
    | cons c w => rw [applyKind_uppercaseFirst_cons, upper_length]
  | uppercaseAll => exact Nat.le_of_eq (upperAll_length _ w 0)

/-- R224: in the default table at most 5 bytes stand before a word and at most 8 after it. -/
theorem affixes_length_le {x : Xform} (h : x ∈ Config.Params.default.transforms) : x.pre.length ≤ 5 ∧ x.post.length ≤ 8 := by
  have hall : (transformRom.all fun x => decide (x.pre.length ≤ 5 ∧ x.post.length ≤ 8)) = true := rfl
  exact of_decide_eq_true (List.all_eq_true.mp hall x h)

theorem applyKind_omitLast_append (w : List Byte) (k : Nat) :
    ∃ tail, w = applyKind (.omitLast k) w ++ tail ∧ tail.length = min k w.length :=
  ⟨w.drop (w.length - k), (List.take_append_drop _ w).symm, by rw [List.length_drop]; omega⟩

theorem append_applyKind_omitFirst (w : List Byte) (k : Nat) :
    ∃ head, w = head ++ applyKind (.omitFirst k) w ∧ head.length = min k w.length :=
  ⟨w.take k, (List.take_append_drop k w).symm, List.length_take⟩

/-- Settles O46: the length bound is `applyKind_length_le` with the affixes of the default table, `upper` has one lemma per
range of the first byte, and the turns of `UppercaseAll` are the iterates of `upperTurn` (`upperAll_eq_iterate`). -/
theorem dictionaryTransforms : Obligations.DictionaryTransforms := by
  refine ⟨fun s w k x hx => exec_sdTransform_of_getElem? w hx, fun x hx w => ?bound,
    fun w k => ⟨rfl, applyKind_omitLast_append w k, append_applyKind_omitFirst w k⟩,
    fun w i c hc => ⟨upper_of_uncased hc, upper_of_lowercase hc, upper_of_twoByte hc, upper_of_threeByte hc⟩,
    rfl, applyKind_uppercaseFirst_cons, fun w => ?loop, by decide, by decide⟩
  case bound =>
    obtain ⟨hpre, hpost⟩ := affixes_length_le hx
    have hword := applyKind_length_le x.kind w
    rw [List.length_append, List.length_append]
    omega
  case loop =>
    obtain ⟨n, hbefore, hend, heq⟩ := upperAll_eq_iterate w.length (w := w) (i := 0) (by omega)
    have hstep (j : Nat) := Function.iterate_succ_apply' upperTurn j (w, 0)
    exact ⟨n, fun j => (upperTurn^[j] (w, 0)).1, fun j => (upperTurn^[j] (w, 0)).2, rfl, rfl,
      fun j hj => ⟨hbefore j hj, by simp only [hstep, upperTurn], by simp only [hstep, upperTurn]⟩, hend, heq⟩

end Sys2Proof.Machine
end

section
/-! PROOF. The tables and the offsets of the command decoder that its elements name by a code: the block, insert and copy length
codes (R246 to R248) and the literal context (R262, R263). -/

namespace Sys2Proof

/-! ## The context tables (R263) -/

theorem getD_lt_of_all_lt {l : List Nat} {n : Nat} (hpos : 0 < n) (h : l.all (fun v => decide (v < n)) = true) (k : Nat) :
    l.getD k 0 < n := by
  rw [List.getD_eq_getElem?_getD]
  cases hk : l[k]? with
  | none => exact hpos
  | some v => exact of_decide_eq_true (List.all_eq_true.1 h v (List.mem_of_getElem? hk))

theorem ctxLut0_lt (b : Nat) : ctxLut0 b < 64 := by
  have hrom := getD_lt_of_all_lt (l := ctxLut0Rom) (n := 64) (by decide) rfl b
  unfold ctxLut0
  split
  · exact hrom
  · split <;> omega

theorem ctxLut1_lt (b : Nat) : ctxLut1 b < 64 := by
  have hrom := getD_lt_of_all_lt (l := ctxLut1Rom) (n := 64) (by decide) rfl b
  unfold ctxLut1
  split
  · exact hrom
  · split <;> omega

theorem ctxLut2_lt (b : Nat) : ctxLut2 b < 8 := by
  unfold ctxLut2
  split_ifs <;> decide

/-- R263: a table of 256 entries given by a function of the byte. -/
theorem getD_byte_table (f : Nat → Nat) (b : Byte) : ((List.range 256).map f).getD b.toNat 0 = f b.toNat := by
  have hb : b.toNat < 256 := b.isLt
  simp [List.getD_eq_getElem?_getD, hb]

end Sys2Proof

namespace Sys2Proof.Machine

/-! ## The literal context (R262) -/

section
variable (p : Config.Params) (p1 p2 : Byte)

theorem literalContext_zero : literalContext p 0 p1 p2 = p1.toNat &&& 0x3F :=
  (Nat.and_two_pow_sub_one_eq_mod p1.toNat 6).symm

theorem literalContext_one : literalContext p 1 p1 p2 = p1.toNat >>> 2 :=
  (Nat.shiftRight_eq_div_pow p1.toNat 2).symm

end

/-- R262, R263: each mode of the default tables gives six bits. -/
theorem literalContext_default_lt {mode : Nat} (hmode : mode < 4) (p1 p2 : Byte) :
    literalContext Config.Params.default mode p1 p2 < 64 := by
  have hp1 : p1.toNat < 256 := p1.isLt
  match mode, hmode with
  | 0, _ => exact Nat.mod_lt _ (by decide)
  | 1, _ => exact Nat.div_lt_of_lt_mul hp1
  | 2, _ =>
    have hfirst : ctxLut0Default.getD p1.toNat 0 < 2 ^ 6 := (getD_byte_table ctxLut0 p1).trans_lt (ctxLut0_lt _)
    have hsecond : ctxLut1Default.getD p2.toNat 0 < 2 ^ 6 := (getD_byte_table ctxLut1 p2).trans_lt (ctxLut1_lt _)
    exact Nat.or_lt_two_pow hfirst hsecond
  | 3, _ =>
    have hfirst : ctxLut2Default.getD p1.toNat 0 < 8 := (getD_byte_table ctxLut2 p1).trans_lt (ctxLut2_lt _)
    have hsecond : ctxLut2Default.getD p2.toNat 0 < 8 := (getD_byte_table ctxLut2 p2).trans_lt (ctxLut2_lt _)
    have hshifted : ctxLut2Default.getD p1.toNat 0 <<< 3 < 2 ^ 6 := by
      rw [Nat.shiftLeft_eq]
      omega
    exact Nat.or_lt_two_pow hshifted (hsecond.trans (by decide))

/-- R260: the table of a literal, by its mode and the entry of the context map. -/
theorem State.literalTable_of_entry {s : State} {mode : Nat} {tree : Byte} (hmode : s.mb.cmode[s.blk.lit.cur]? = some mode)
    (htree : s.cm.mapL[64 * s.blk.lit.cur + literalContext s.par mode s.rb.p1 s.rb.p2]? = some tree) :
    s.literalTable = lookupTable s.ht (.tgL tree.toNat) := by
  simp only [State.literalTable, hmode, htree]

/-- Settles O37: the masks are a remainder and a quotient, the bound is that of the tables (`literalContext_default_lt`), and the
table is that of the entry (`State.literalTable_of_entry`). -/
theorem literalContextModes : Obligations.LiteralContextModes := by
  refine fun p p1 p2 => ⟨literalContext_zero p p1 p2, literalContext_one p p1 p2, rfl, rfl,
    fun mode hmode => literalContext_default_lt hmode p1 p2,
    ⟨getD_byte_table ctxLut0 p1, getD_byte_table ctxLut1 p1, getD_byte_table ctxLut2 p1⟩, ?_⟩
  rintro s mode tree rfl rfl rfl hmode htree
  exact congrArg (Option.map ElemFmt.literal) (State.literalTable_of_entry hmode htree)

/-! ## Rows of a length table (R246 to R248) -/

/-- A row of a table that lists, code by code, the instruction and the value of the code belongs to a code. -/
theorem exists_code_of_mem {rows : List (Instr × Nat)} {n : Nat} {instr : Nat → Option Instr} {value : Nat → Nat}
    (hrows : rows.map (fun p => (some p.1, p.2)) = (List.range n).map fun k => (instr k, value k)) {i : Instr} {v : Nat}
    (h : (i, v) ∈ rows) : ∃ k, instr k = some i ∧ value k = v := by
  have hmem : (some i, v) ∈ (List.range n).map fun k => (instr k, value k) := hrows ▸ List.mem_map_of_mem h
  obtain ⟨k, -, hk⟩ := List.mem_map.1 hmem
  exact ⟨k, Prod.mk.inj hk⟩

/-- R246, R250: the instruction of the block length code `k` writes the length. -/
theorem exec_of_blenInstr {k x : Nat} {i : Instr} (h : blenInstr k x = some i) (s : State) :
    exec i s = .next (s.setBlockLength (blenOff k + x)) := by
  unfold blenInstr at h
  split at h <;> cases h <;> rfl

/-- Settles O33: the rows are those of the 26 codes, and each writes its length (`exec_of_blenInstr`). -/
theorem blockLengths : Obligations.BlockLengths := by
  intro s x off i hmem
  obtain ⟨k, hinstr, rfl⟩ := exists_code_of_mem (n := 26) (instr := fun k => blenInstr k x) (value := blenOff) rfl hmem
  exact exec_of_blenInstr hinstr s

/-- R247, R248: the extra bits `x` of a code that has `nb` of them; a code with none takes no value. -/
def extraValue (nb x : Nat) : Nat := if nb = 0 then 0 else x

/-- R247, R257: the instruction of the insert length code `k` writes the insert length. -/
theorem exec_of_insInstr {k x : Nat} {i : Instr} (h : insInstr k x = some i) (s : State) :
    exec i s = .next (s.setInsert (insOff k + extraValue (insBits k) x)) := by
  unfold insInstr at h
  split at h <;> cases h <;> rfl

/-- R248, R257: the instruction of the copy length code `k` writes the copy length. -/
theorem exec_of_cpyInstr {k x : Nat} {i : Instr} (h : cpyInstr k x = some i) (s : State) :
    exec i s = .next (s.setCopy (cpyOff k + extraValue (cpyBits k) x)) := by
  unfold cpyInstr at h
  split at h <;> cases h <;> rfl

/-- Settles O35: the rows are those of the 24 codes of each kind, and each writes its length. -/
theorem insertAndCopyLengths : Obligations.InsertAndCopyLengths := by
  refine ⟨fun s x n i hmem => ?_, fun s x n i hmem => ?_⟩
  · obtain ⟨k, hinstr, rfl⟩ := exists_code_of_mem (n := 24) (instr := fun k => insInstr k x)
      (value := fun k => insOff k + extraValue (insBits k) x) rfl hmem
    exact exec_of_insInstr hinstr s
  · obtain ⟨k, hinstr, rfl⟩ := exists_code_of_mem (n := 24) (instr := fun k => cpyInstr k x)
      (value := fun k => cpyOff k + extraValue (cpyBits k) x) rfl hmem
    exact exec_of_cpyInstr hinstr s

end Sys2Proof.Machine
end

section
/-! PROOF. The turn of DEC over the agenda (R12, R132, R284): an operation, a statement, or the visit of the sequencer state. -/

namespace Sys2Proof.Machine

section
variable {s : State}

theorem decTurn_of_op {i : Instr} {rest : List Todo} (hoffer : s.snk.offer = none) (htodo : s.todo = .op i :: rest)
    (hfree : s.opHeld i = false) : decTurn s = exec i (State.fillFor i { s with todo := rest }) := by
  simp only [decTurn, State.heldOnOutput, hoffer, Option.isSome_none, Bool.false_eq_true, if_false, htodo, hfree]

theorem decTurn_of_act {m : Act} {rest : List Todo} (hoffer : s.snk.offer = none) (htodo : s.todo = .act m :: rest) :
    decTurn s = runAct m { s with todo := rest } := by
  simp only [decTurn, State.heldOnOutput, hoffer, Option.isSome_none, Bool.false_eq_true, if_false, htodo]

theorem decTurn_of_visit (hoffer : s.snk.offer = none) (htodo : s.todo = []) : decTurn s = exec (stateInstr s.st) s := by
  simp only [decTurn, State.heldOnOutput, hoffer, Option.isSome_none, Bool.false_eq_true, if_false, htodo]

end

/-- Settles O2: the step is the turn of DEC, which goes by the front of the agenda. -/
theorem stepRunsAgenda : Obligations.StepRunsAgenda := by
  intro s ts rest hoffer hturns
  have hstep : step s = decTurn (s.setTurns ts) := step_of_turn hturns
  refine ⟨fun i htodo hfree => ?_, fun m htodo => ?_, fun htodo => ?_⟩
  · exact hstep.trans (decTurn_of_op (s := s.setTurns ts) hoffer htodo hfree)
  · exact hstep.trans (decTurn_of_act (s := s.setTurns ts) hoffer htodo)
  · exact hstep.trans (decTurn_of_visit (s := s.setTurns ts) hoffer htodo)

end Sys2Proof.Machine
end

section
/-! PROOF. Session control (R235, R236, R280, R320) and the visits of the sequencer states (R237 to R279). -/

namespace Sys2Proof.Machine

/-! ## Nothing valid (R15, R18) -/

theorem lookupTable_none (r : TableRef) : lookupTable TableRam.none r = none := by
  cases r with
  | bt c | bl c => cases c <;> rfl
  | cm | clc | tgL _ | tgI _ | tgD _ => rfl

theorem blkReset_get (c : Cat) : blkReset.get c = { nbt := 1, cur := 0, prev2 := 1, blen := 0 } := by
  cases c <;> rfl

/-! ## Session control (R235, R236, R280) -/

section
variable {s : State}

theorem State.start_of_legal (hrest : s.st.noSession = true) (hmin : 10 ≤ s.wbits.toNat) (hmax : s.wbits.toNat ≤ 24) :
    s.start = { s.sessionReset with rb := { s.sessionReset.rb with winBits := s.wbits.toNat }, st := .mbBegin } := by
  obtain ⟨-, -, -, hstart⟩ | ⟨hillegal, -⟩ := s.start_cases
  · exact hstart
  · exact absurd ⟨hrest, hmin, hmax⟩ hillegal

theorem State.start_of_illegal (h : s.st.noSession = false ∨ s.wbits.toNat < 10 ∨ 24 < s.wbits.toNat) : s.start = s := by
  obtain ⟨hrest, hmin, hmax, -⟩ | ⟨-, hstart⟩ := s.start_cases
  · obtain hrun | hbits := h
    · exact nomatch hrest.symm.trans hrun
    · omega
  · exact hstart

theorem State.sizeq_of_noSession (h : s.st.noSession = true) :
    s.sizeq = { s.sessionReset with q := true, st := .mbHeader } := by
  rw [State.sizeq, if_pos h]

theorem State.sizeq_of_session (h : s.st.noSession = false) : s.sizeq = s := by
  rw [State.sizeq, if_neg (Bool.eq_false_iff.1 h)]

end

/-- Settles O47: `START` and `SIZEQ` go by their guards, `ABORT` has none, and the items of the reset state are those of R320. -/
theorem sessionControl : Obligations.SessionControl := by
  refine fun s => ⟨fun hrest hmin hmax => ?_, fun hillegal => ?_, fun hrest => ?_, fun hrun => ?_, rfl, rfl, ?_⟩
  · exact ⟨s.start, rfl, rfl, State.start_of_legal hrest hmin hmax⟩
  · have hstart := State.start_of_illegal hillegal
    exact ⟨congrArg Host.Outcome.next hstart, congrArg Host.Outcome.next hstart⟩
  · have hsizeq := State.sizeq_of_noSession hrest
    exact ⟨congrArg Host.Outcome.next hsizeq, congrArg Host.Outcome.next hsizeq⟩
  · have hsizeq := State.sizeq_of_session hrun
    exact ⟨congrArg Host.Outcome.next hsizeq, congrArg Host.Outcome.next hsizeq⟩
  · rintro t rfl
    exact ⟨rfl, rfl, rfl, rfl, rfl, rfl, rfl, rfl, rfl, rfl, rfl, lookupTable_none, rfl, rfl, blkReset_get, rfl, rfl, rfl, rfl,
      rfl, rfl, rfl, rfl, rfl, rfl, rfl, rfl, rfl, rfl, rfl, rfl, rfl, rfl, rfl, rfl⟩

/-! ## The meta-block states (R237, R277) -/

/-- Settles O48: the visit is one assignment; no table is valid after it, and every category has its reset block state. -/
theorem metaBlockBegin : Obligations.MetaBlockBegin := by
  have hmodes (n : Nat) : ((List.range 256).map fun k => (Config.freeMode n k).toNat).length = 256 := by
    rw [List.length_map, List.length_range]
  intro s
  exact ⟨_, rfl, rfl, rfl, rfl, rfl, rfl, blkReset_get, rfl, rfl, rfl, rfl, rfl, lookupTable_none, rfl, rfl, rfl, rfl, rfl, rfl,
    rfl, rfl, rfl, hmodes s.free⟩

theorem exec_cdMbDone (s : State) : exec .cdMbDone s = .next (s.goto (if s.mb.last = true then .flush else .mbBegin)) := by
  have hexec : exec .cdMbDone s = execCdMbDone s := rfl
  rw [hexec, execCdMbDone]
  split
  · rfl
  · rfl

/-- Settles O52: the visit is one `goto`, whose target is given by `MB.LAST`. -/
theorem metaBlockDone : Obligations.MetaBlockDone := by
  refine fun s => ⟨fun hlast => ?_, fun hlast => ?_⟩
  · rw [exec_cdMbDone, if_pos hlast, State.goto]
  · rw [exec_cdMbDone, if_neg (Bool.eq_false_iff.1 hlast), State.goto]

/-! ## The header states (R238 to R255) -/

theorem exec_cdUncompressedCopy (s : State) : exec .cdUncompressedCopy s = execCdUncompressedCopy s := rfl

/-- Settles O49: each visit is one push of its items, and each end of a state one `goto`; only `UNCOMPRESSED_COPY` looks at the
cursor. -/
theorem headerStateVisits : Obligations.HeaderStateVisits := by
  refine fun s => ⟨rfl, fun haligned => ?_, fun hunaligned => ?_, rfl, rfl, ?_, ?_, rfl, rfl, rfl, rfl⟩
  · rw [exec_cdUncompressedCopy, execCdUncompressedCopy, if_pos haligned]
    rfl
  · rw [exec_cdUncompressedCopy, execCdUncompressedCopy, if_neg hunaligned]
    rfl
  · have hexec : exec .cdHdrCtxmodes s = execCdHdrCtxmodes s := rfl
    simp only [hexec, execCdHdrCtxmodes, State.push, List.append_assoc, List.singleton_append]
  · have hexec : exec .cdHdrTrees s = execCdHdrTrees s := rfl
    simp only [hexec, execCdHdrTrees, State.push, readGroup, List.append_assoc, List.singleton_append]

/-- Settles O27: each visit is one push of its two items, and each end of a map one assignment and a `goto`. -/
theorem contextMapStates : Obligations.ContextMapStates := fun _ => ⟨rfl, rfl, rfl, rfl⟩

/-! ## The command states (R257 to R279) -/

theorem exec_cdCmdLiteral (s : State) : exec .cdCmdLiteral s = execCdCmdLiteral s := rfl

theorem exec_cdCmdLiteral_of_left {s : State} (h : s.cmd.ins ≠ 0) :
    exec .cdCmdLiteral s = .next (s.push [.act (.tick .lit), .elem .literal]) := by
  rw [exec_cdCmdLiteral, execCdCmdLiteral, if_neg h]

theorem exec_cdCmdLiteral_of_done {s : State} (h : s.cmd.ins = 0) :
    exec .cdCmdLiteral s = .next (s.goto (if s.mb.rem = 0 ∨ s.cmd.cpy = 0 then .cmdEnd else .cmdDistance)) := by
  rw [exec_cdCmdLiteral, execCdCmdLiteral, if_pos h]
  split
  · rfl
  · rfl

theorem exec_cdCmdDistance (s : State) :
    exec .cdCmdDistance s = .next (s.push
      (if s.cmd.dcode = -1 then [.act (.tick .dist), .elem .distsym, .act .classify] else [.act .resolve, .act .classify])) := by
  have hexec : exec .cdCmdDistance s = execCdCmdDistance s := rfl
  rw [hexec, execCdCmdDistance]
  split
  · rfl
  · rfl

theorem exec_cdCmdEnd (s : State) : exec .cdCmdEnd s = .next (s.goto (if 0 < s.mb.rem then .cmdBegin else .mbDone)) := by
  have hexec : exec .cdCmdEnd s = execCdCmdEnd s := rfl
  rw [hexec, execCdCmdEnd]
  split
  · rfl
  · rfl

/-- Settles O50: a visit of `CMD_LITERAL` goes by the literals left and by what remains, one of `CMD_DISTANCE` by `CMD.DCODE`; the
others are one push, one `goto` or nothing. -/
theorem commandStateVisits : Obligations.CommandStateVisits := by
  refine fun s => ⟨rfl, fun hleft => ?_, fun hdone hend => ?_, fun hdone hrem hcpy => ?_, fun hread => ?_, fun hgiven => ?_,
    rfl, rfl, rfl, rfl, rfl⟩
  · exact exec_cdCmdLiteral_of_left hleft
  · rw [exec_cdCmdLiteral_of_done hdone, if_pos hend, State.goto]
  · rw [exec_cdCmdLiteral_of_done hdone, if_neg (not_or.2 ⟨hrem, hcpy⟩), State.goto]
  · rw [exec_cdCmdDistance, if_pos hread]
    rfl
  · rw [exec_cdCmdDistance, if_neg hgiven]
    rfl

/-- Settles O51: the visit is one `goto`, whose target is given by `MB.REM`. -/
theorem commandEnd : Obligations.CommandEnd := by
  refine fun s => ⟨fun hleft => ?_, fun hdone => ?_⟩
  · rw [exec_cdCmdEnd, if_pos hleft, State.goto]
  · rw [exec_cdCmdEnd, if_neg (by omega), State.goto]

end Sys2Proof.Machine
end

section
/-! PROOF. The elements of the meta-block header, in a decode session and in a size query (R238 to R241, R280), and of the body
header (R243 to R245), with the block switches (R251, R252). -/

namespace Sys2Proof.Machine

/-! ## Both modes (R104, R238) -/

theorem exec_mnibbles (n : Nat) (s : State) :
    exec (.mnibbles n) s = .next { s with
      visit := { s.visit with nibI := 0, lenAcc := 0 }
      todo := List.replicate (4 + n) (.elem .mlenNibble) ++ .act .endLen :: s.todo } := by
  have hexec : exec (.mnibbles n) s = execMnibbles n s := rfl
  simp only [hexec, execMnibbles, State.push, List.append_assoc, List.singleton_append]

theorem exec_islast (v : Bool) (s : State) : exec (.islast v) s = execIslast v s := rfl

theorem exec_isempty (v : Bool) (s : State) : exec (.isempty v) s = execIsempty v s := rfl

theorem exec_isuncompressed (v : Bool) (s : State) : exec (.isuncompressed v) s = execIsuncompressed v s := rfl

/-! ## A decode session (R238, R240) -/

theorem State.headerBranch_eq (s : State) :
    s.headerBranch = s.goto (if s.mb.uncomp = true then .uncompressedCopy else .hdrBlocks) := by
  rw [State.headerBranch, ← apply_ite fun st => s.goto st]

section
variable {s : State}

theorem exec_islast_of_session (hq : s.q = false) (v : Bool) :
    exec (.islast v) s = .next (State.push (afterLast v) { s with mb := { s.mb with last := v } }) := by
  rw [exec_islast, execIslast, if_neg (Bool.eq_false_iff.1 hq)]

theorem exec_isempty_of_session (hq : s.q = false) (v : Bool) :
    exec (.isempty v) s = .next (if v = true then s.goto .mbDone else s.push [.elem .mnibbles]) := by
  rw [exec_isempty, execIsempty, if_neg (Bool.eq_false_iff.1 hq), apply_ite Host.Outcome.next]

theorem exec_isuncompressed_of_session (hq : s.q = false) (v : Bool) :
    exec (.isuncompressed v) s = .next (State.headerBranch { s with mb := { s.mb with uncomp := v } }) := by
  rw [exec_isuncompressed, execIsuncompressed, if_neg (Bool.eq_false_iff.1 hq)]

theorem State.endLen_of_session (hq : s.q = false) :
    (s.mb.last = false ∨ s.par.uncompFlagInFinal = true →
      s.endLen = State.push [.elem .isuncompressed] { s with mb := { s.mb with rem := s.visit.lenAcc + 1 } }) ∧
    (¬(s.mb.last = false ∨ s.par.uncompFlagInFinal = true) →
      s.endLen = State.headerBranch { s with mb := { s.mb with rem := s.visit.lenAcc + 1 } }) := by
  rw [State.endLen, if_neg (Bool.eq_false_iff.1 hq)]
  exact ⟨fun hflag => if_pos hflag, fun hflag => if_neg hflag⟩

end

/-- Settles O28: in a decode session each flag goes by its value, and the end of the length by whether the stored-uncompressed
flag is read; a nibble adds its digit (`execMlenNibble_add`). -/
theorem headerElements : Obligations.HeaderElements := by
  refine fun s n x d => ⟨fun hq => ⟨?_, ?_, ?_, ?_, fun hflag => ?_, fun hlast hpar => ?_, ?_, ?_⟩, exec_mnibbles n s,
    fun _ hacc => execMlenNibble_add d hacc, rfl, rfl, rfl, rfl⟩
  · exact exec_islast_of_session hq true
  · exact exec_islast_of_session hq false
  · exact exec_isempty_of_session hq true
  · exact exec_isempty_of_session hq false
  · exact congrArg Host.Outcome.next ((State.endLen_of_session hq).1 hflag)
  · have hnoFlag : ¬(s.mb.last = false ∨ s.par.uncompFlagInFinal = true) := by simp [hlast, hpar]
    have hend := ((State.endLen_of_session hq).2 hnoFlag).trans (State.headerBranch_eq _)
    exact congrArg Host.Outcome.next hend
  · exact exec_isuncompressed_of_session hq true
  · exact exec_isuncompressed_of_session hq false

/-! ## A size query (R280) -/

section
variable {s : State}

/-- R280: before the stored bytes the two flags are those of the block asked about. -/
theorem exec_flags_of_query (hq : s.q = true) (htail : s.visit.qTail = false) (v : Bool) :
    exec (.islast v) s = .next (State.push (afterLast v) { s with visit := { s.visit with qLast := v } }) ∧
    exec (.isempty v) s = .next (if v = true then s.queryReturn 0 else s.push [.elem .mnibbles]) := by
  have htail := Bool.eq_false_iff.1 htail
  rw [exec_islast, execIslast, if_pos hq, if_neg htail, exec_isempty, execIsempty, if_pos hq, if_neg htail,
    apply_ite Host.Outcome.next]
  exact ⟨rfl, rfl⟩

/-- R280: after the stored bytes only an empty final block gives the size. -/
theorem exec_flags_of_tail (hq : s.q = true) (htail : s.visit.qTail = true) (v : Bool) :
    exec (.islast v) s = .next (if v = true then s.push [.elem .isempty] else s.queryUnknown) ∧
    exec (.isempty v) s = .next (if v = true then s.queryReturn s.visit.qSize else s.queryUnknown) := by
  rw [exec_islast, execIslast, if_pos hq, if_pos htail, exec_isempty, execIsempty, if_pos hq, if_pos htail,
    apply_ite Host.Outcome.next, apply_ite Host.Outcome.next]
  exact ⟨rfl, rfl⟩

theorem exec_isuncompressed_of_query (hq : s.q = true) (v : Bool) :
    exec (.isuncompressed v) s = .next (if v = true then
      State.push [.op .brAlign, .act .skipStored] { s with visit := { s.visit with qCnt := s.visit.qSize } }
    else s.queryUnknown) := by
  rw [exec_isuncompressed, execIsuncompressed, if_pos hq, apply_ite Host.Outcome.next]

theorem State.endLen_of_query (hq : s.q = true) :
    (s.visit.qLast = true → s.endLen =
      State.queryReturn (s.visit.lenAcc + 1) { s with visit := { s.visit with qSize := s.visit.lenAcc + 1 } }) ∧
    (s.visit.qLast = false → s.endLen =
      State.push [.elem .isuncompressed] { s with visit := { s.visit with qSize := s.visit.lenAcc + 1 } }) := by
  rw [State.endLen, if_pos hq]
  exact ⟨fun hlast => if_pos hlast, fun hlast => if_neg (Bool.eq_false_iff.1 hlast)⟩

theorem State.skipStored_of_left (h : s.visit.qCnt ≠ 0) : s.skipStored =
    State.push [.op (.brDrop 8), .act .skipStored] { s with visit := { s.visit with qCnt := s.visit.qCnt - 1 } } := by
  rw [State.skipStored, if_neg h]

theorem State.skipStored_of_done (h : s.visit.qCnt = 0) :
    s.skipStored = State.push [.elem .islast] { s with visit := { s.visit with qTail := true } } := by
  rw [State.skipStored, if_pos h]

end

/-- Settles O30: the flags go by whether the stored bytes are behind (`exec_flags_of_query`, `exec_flags_of_tail`), the end of the
length by the final block, the skip by the bytes left. -/
theorem sizeQueryElements : Obligations.SizeQueryElements := by
  refine fun s n d hq => ⟨exec_mnibbles n s, fun _ hacc => execMlenNibble_add d hacc, fun hhead => ?_, fun htail => ?_,
    fun hlast => ?_, fun hlast => ?_, exec_isuncompressed_of_query hq false, exec_isuncompressed_of_query hq true,
    fun hleft => ?_, fun hdone => ?_⟩
  · obtain ⟨hlastSet, hempty⟩ := exec_flags_of_query hq hhead true
    obtain ⟨hlastClear, hfull⟩ := exec_flags_of_query hq hhead false
    exact ⟨hlastSet, hlastClear, hempty, hfull⟩
  · obtain ⟨hlastSet, hempty⟩ := exec_flags_of_tail hq htail true
    obtain ⟨hlastClear, hfull⟩ := exec_flags_of_tail hq htail false
    exact ⟨hlastSet, hlastClear, hempty, hfull⟩
  · exact congrArg Host.Outcome.next ((State.endLen_of_query hq).1 hlast)
  · exact congrArg Host.Outcome.next ((State.endLen_of_query hq).2 hlast)
  · exact congrArg Host.Outcome.next (State.skipStored_of_left hleft)
  · exact congrArg Host.Outcome.next (State.skipStored_of_done hdone)

/-! ## The body header (R243 to R245) -/

theorem exec_nbltypes (v : Nat) (s : State) :
    exec (.nbltypes v) s = .next (State.push (afterBlockCount s.visit.cat (v + 1))
      (s.setBlk s.visit.cat { s.blk.get s.visit.cat with nbt := v + 1 })) := rfl

theorem afterBlockCount_of_one (c : Cat) : afterBlockCount c 1 = [] := rfl

theorem afterBlockCount_of_two_le {c : Cat} {nbt : Nat} (h : 2 ≤ nbt) : afterBlockCount c nbt =
    [.op (.hdReadcode (nbt + 2)), .act (.store (.bt c)), .op (.hdReadcode 26), .act (.store (.bl c)), .elem .blenFirst] :=
  if_pos h

/-- R244: the distance parameters, the shifts written as products. -/
theorem exec_ndirectHi (d : Nat) (s : State) :
    exec (.ndirectHi d) s = .next { s with mb := { s.mb with
      numdirect := 16 + d * 2 ^ s.mb.npostfix
      ndist := 16 + d * 2 ^ s.mb.npostfix + 48 * 2 ^ s.mb.npostfix } } := by
  have hexec : exec (.ndirectHi d) s = execNdirectHi d s := rfl
  simp only [hexec, execNdirectHi, Nat.shiftLeft_eq]

/-- R245, R262: the context mode number `m` is stored at its place. -/
theorem exec_of_cmodeInstr {m : Nat} {i : Instr} (h : cmodeInstr m = some i) (s : State) : exec i s = .next (s.setMode m) := by
  unfold cmodeInstr at h
  split at h <;> cases h <;> rfl

/-- Settles O31: each element is one assignment; a count of two types or more announces its two codes and the first length. -/
theorem bodyHeaderElements : Obligations.BodyHeaderElements := by
  refine fun s v code x p d => ⟨fun c => rfl, fun hone => ?_, fun hmore => ?_, rfl, rfl, rfl, exec_ndirectHi d s,
    fun i m hmem => ?_⟩
  · rw [hone, exec_nbltypes, afterBlockCount_of_one]
    rfl
  · rw [exec_nbltypes, afterBlockCount_of_two_le (by omega)]
    rfl
  · have hrows : ∀ r ∈ [(Instr.cmodeLsb6, 0), (.cmodeMsb6, 1), (.cmodeUtf8, 2), (.cmodeSigned, 3)],
        cmodeInstr r.2 = some r.1 := by decide
    exact exec_of_cmodeInstr (hrows _ hmem) s

/-! ## Block switches (R251, R252) -/

section
variable {s : State} {c : Cat}

theorem State.tick_of_single (h : (s.blk.get c).nbt < 2) : s.tick c = { s with visit := { s.visit with cat := c } } := by
  rw [State.tick, if_pos h]

theorem State.tick_of_left (htypes : 2 ≤ (s.blk.get c).nbt) (hleft : (s.blk.get c).blen ≠ 0) :
    s.tick c = State.setBlk c { s.blk.get c with blen := (s.blk.get c).blen - 1 }
      { s with visit := { s.visit with cat := c } } := by
  rw [State.tick, if_neg (Nat.not_lt.2 htypes), if_neg hleft]

theorem State.tick_of_usedUp (htypes : 2 ≤ (s.blk.get c).nbt) (hdone : (s.blk.get c).blen = 0) :
    s.tick c = State.push [.elem .btsym, .elem .blen, .act (.tickDown c)] { s with visit := { s.visit with cat := c } } := by
  rw [State.tick, if_neg (Nat.not_lt.2 htypes), if_pos hdone]

end

/-- Settles O32: the three codes are `switchTo` of the type they name, and a tick goes by the number of types and the symbols
left. -/
theorem blockSwitch : Obligations.BlockSwitch := by
  refine ⟨?_, fun s c => ⟨fun hsingle => ?_, fun htypes hleft => ?_, fun htypes hdone => ?_, ?_, rfl⟩⟩
  · rintro s k b rfl
    exact ⟨rfl, rfl, rfl⟩
  · exact congrArg Host.Outcome.next (State.tick_of_single hsingle)
  · exact congrArg Host.Outcome.next (State.tick_of_left htypes hleft)
  · exact congrArg Host.Outcome.next (State.tick_of_usedUp htypes hdone)
  · rintro rfl
    exact ⟨rfl, rfl⟩

end Sys2Proof.Machine
end

section
/-! PROOF. The checks and the counts of a command (R257 to R274). -/

namespace Sys2Proof.Machine

/-! ## The end of a command header (R257, R258) -/

/-- Settles O36: `CMD.DCODE` is written on both branches of the insert check. -/
theorem insertCheck : Obligations.InsertCheck := by
  rintro s t rfl
  have hact : runAct .cmdHeaderEnd s = .next s.cmdHeaderEnd := rfl
  refine ⟨fun hlong => ?_, fun hfits => ?_⟩
  · rw [hact, State.cmdHeaderEnd, if_pos hlong]
  · rw [hact, State.cmdHeaderEnd, if_neg (Nat.not_lt.2 hfits), State.goto]

/-! ## Window or dictionary (R264, R267 to R269, R273) -/

section
variable {s : State}

/-- R267: the state in which `CMD.MAXD` holds `max_distance`. -/
def State.setMaxDistance (s : State) : State := { s with cmd := { s.cmd with maxd := s.maxDistance } }

/-- R268: a copy longer than what remains is rejected before the push. -/
theorem State.classify_of_overlong (hwindow : s.cmd.dist ≤ s.maxDistance) (hlong : s.mb.rem < s.cmd.cpy) :
    s.classify = s.setMaxDistance.raise .invalidBackwardReference 3 := by
  simp only [State.classify, State.setMaxDistance, if_pos hwindow, if_pos hlong]

/-- R269, R270: a copy that fits follows, its distance pushed unless the code is 0. -/
theorem State.classify_of_window (hwindow : s.cmd.dist ≤ s.maxDistance) (hfits : s.cmd.cpy ≤ s.mb.rem) :
    s.classify = { s.setMaxDistance with
      dr := if 0 < s.cmd.dcode then s.dr.push s.cmd.dist else s.dr
      cmd := { s.setMaxDistance.cmd with cpyrem := s.cmd.cpy }, st := .cmdCopyWindow, todo := [] } := by
  simp only [State.classify, State.setMaxDistance, if_pos hwindow, if_neg (Nat.not_lt.2 hfits), State.pushDistance, State.goto]
  split
  · rfl
  · rfl

/-- R267, R273: any other distance is a reference into the dictionary. -/
theorem State.classify_of_dictionary (hfar : s.maxDistance < s.cmd.dist) :
    s.classify = s.setMaxDistance.push
      [.op (.sdLookup s.cmd.cpy (s.cmd.dist - s.maxDistance - 1)), .act .dictCheck] := by
  simp only [State.classify, State.setMaxDistance, if_neg (Nat.not_le.2 hfar)]

theorem State.dictCheck_of_overlong (h : s.mb.rem < s.sd.outlen) : s.dictCheck = s.raise .invalidBackwardReference 4 :=
  if_pos h

theorem State.dictCheck_of_fits (h : s.sd.outlen ≤ s.mb.rem) : s.dictCheck = s.goto .cmdCopyDict := if_neg (Nat.not_lt.2 h)

end

/-- R269: a push writes the slot `DR.IDX`, counts it on, and leaves the other slots. -/
theorem DistRing.push_spec (r : DistRing) (d : Nat) :
    (r.push d).idx = r.idx + 1 ∧
    [(r.push d).d0, (r.push d).d1, (r.push d).d2, (r.push d).d3] = [r.d0, r.d1, r.d2, r.d3].set r.idx.toNat d := by
  obtain ⟨d0, d1, d2, d3, idx⟩ := r
  obtain rfl | rfl | rfl | rfl : idx = 0 ∨ idx = 1 ∨ idx = 2 ∨ idx = 3 := by
    revert idx
    decide
  all_goals exact ⟨rfl, rfl⟩

/-- Settles O44: the answers of `classify` and `dictCheck`; the ring that a window copy leaves is one push (`DistRing.push_spec`)
or the old one. -/
theorem windowOrDictionary : Obligations.WindowOrDictionary := by
  rintro s t rfl
  refine ⟨fun hwindow hlong => ?_, fun hwindow hfits => ?_, fun hfar => ?_, fun hlong => ?_, fun hfits => ?_⟩
  · exact congrArg Host.Outcome.next (State.classify_of_overlong hwindow hlong)
  · refine ⟨if 0 < s.cmd.dcode then s.dr.push s.cmd.dist else s.dr,
      congrArg Host.Outcome.next (State.classify_of_window hwindow hfits), fun hzero => if_neg (by omega), fun hpos => ?_⟩
    rw [if_pos hpos]
    exact s.dr.push_spec s.cmd.dist
  · exact congrArg Host.Outcome.next (State.classify_of_dictionary hfar)
  · exact congrArg Host.Outcome.next (State.dictCheck_of_overlong hlong)
  · exact congrArg Host.Outcome.next (State.dictCheck_of_fits hfits)

/-! ## The counts after a put (R241, R260, R270, R274) -/

/-- R241: after a stored byte the state stays while bytes remain. -/
theorem State.rawDone_eq (s : State) :
    s.rawDone = { s with
      mb := { s.mb with rem := s.mb.rem - 1 }, st := if s.mb.rem ≤ 1 then .mbDone else .uncompressedCopy, todo := [] } := by
  rw [State.rawDone]
  by_cases hlast : s.mb.rem ≤ 1
  · have hzero : s.mb.rem - 1 = 0 := by omega
    simp only [hzero, if_pos hlast, if_true, State.goto]
  · have hmore : s.mb.rem - 1 ≠ 0 := by omega
    simp only [if_neg hmore, if_neg hlast, State.goto]

section
variable {s : State}

theorem State.copyDone_of_more (h : 1 < s.cmd.cpyrem) :
    s.copyDone = { s with cmd := { s.cmd with cpyrem := s.cmd.cpyrem - 1 }, mb := { s.mb with rem := s.mb.rem - 1 } } := by
  have hmore : s.cmd.cpyrem - 1 ≠ 0 := by omega
  simp only [State.copyDone, if_neg hmore]

theorem State.copyDone_of_last (h : s.cmd.cpyrem ≤ 1) :
    s.copyDone = { s with
      cmd := { s.cmd with cpyrem := 0 }, mb := { s.mb with rem := s.mb.rem - 1 }, st := .cmdEnd, todo := [] } := by
  have hzero : s.cmd.cpyrem - 1 = 0 := by omega
  simp only [State.copyDone, hzero, if_true, State.goto]

end

/-- Settles O39: a literal and a byte of a word are counted and nothing else; a stored byte and a copied byte also end their
state. -/
theorem byteCounts : Obligations.ByteCounts := fun s =>
  ⟨congrArg Host.Outcome.next s.rawDone_eq, rfl, fun hmore => congrArg Host.Outcome.next (State.copyDone_of_more hmore),
    fun hlast => congrArg Host.Outcome.next (State.copyDone_of_last hlast), rfl⟩

end Sys2Proof.Machine
end

section
/-! PROOF. Holds and `STATUS` (R131, R303, R25, R290): when DEC is held, what a held turn does, and what the host reads. -/

namespace Sys2Proof.Machine

section
variable {s : State}

/-! ## A held turn of DEC (R303) -/

theorem State.heldOnOutput_of_isSome (h : s.snk.offer.isSome = true) : s.heldOnOutput = true := h

theorem State.heldOnOutput_of_none (h : s.snk.offer = none) : s.heldOnOutput = false := by
  rw [State.heldOnOutput, h, Option.isSome_none]

/-- R303: DEC is held on input exactly where the front of the agenda is an element or an operation that is held. -/
theorem State.heldOnInput_iff (s : State) :
    s.heldOnInput = true ↔
      (∃ k rest, s.todo = .elem k :: rest ∧ s.fetch k = .hold) ∨ (∃ i rest, s.todo = .op i :: rest ∧ s.opHeld i = true) := by
  cases htodo : s.todo with
  | nil => simp [State.heldOnInput, htodo]
  | cons item rest =>
    cases item with
    | act m => simp [State.heldOnInput, htodo]
    | op i => simp [State.heldOnInput, htodo]
    | elem k => cases hfetch : s.fetch k <;> simp [State.heldOnInput, htodo, hfetch]

theorem decTurn_of_heldOnOutput (h : s.heldOnOutput = true) : decTurn s = .next s := if_pos h

/-- R131, R303: an element or operation that waits for input leaves the state as it is, a chunk on offer or not. -/
theorem decTurn_of_heldOnInput (h : s.heldOnInput = true) : decTurn s = .next s := by
  obtain ⟨k, rest, htodo, hheld⟩ | ⟨i, rest, htodo, hheld⟩ := s.heldOnInput_iff.1 h
  · simp only [decTurn, htodo, hheld, ite_self]
  · simp only [decTurn, htodo, hheld, if_true, ite_self]

/-! ## What the host reads (R25, R303) -/

/-- R303: in a session `STATUS` goes by the holds, the one on output first. -/
theorem State.status_of_session (h : s.st.noSession = false) :
    s.status = if s.heldOnOutput = true then .needsOutput else if s.heldOnInput = true then .needsInput else .run := by
  cases hst : s.st with
  | idle | finished | error => exact nomatch (congrArg St.noSession hst).symm.trans h
  | _ => simp only [State.status, hst]

theorem State.status_of_idle (h : s.st = .idle) : s.status = .idle := by rw [State.status, h]

theorem State.status_of_finished (h : s.st = .finished) : s.status = .done := by rw [State.status, h]

theorem State.status_of_error (h : s.st = .error) : s.status = .error := by rw [State.status, h]

theorem State.statPos_of_query (h : s.q = true) : s.statPos = s.qsize := if_pos h

theorem State.statPos_of_decode (h : s.q = false) : s.statPos = s.rb.pos := if_neg (Bool.eq_false_iff.1 h)

end

/-- Settles O12: the step is the turn of DEC, which either hold makes the identity. -/
theorem heldStepChangesNothing : Obligations.HeldStepChangesNothing := by
  intro s ts hturns hheld
  have hstep : step s = decTurn (s.setTurns ts) := step_of_turn hturns
  obtain houtput | hinput := hheld
  · exact hstep.trans (decTurn_of_heldOnOutput (s := s.setTurns ts) houtput)
  · exact hstep.trans (decTurn_of_heldOnInput (s := s.setTurns ts) hinput)

/-- Settles O54: outside a session `STATUS` goes by `CD.ST`, in one by the holds (`State.status_of_session`); the codes are those
of the two tables. -/
theorem statusFunction : Obligations.StatusFunction := by
  refine fun s => ⟨State.status_of_idle, State.status_of_finished, State.status_of_error, fun hrun hoffer => ?_,
    fun hrun hoffer hinput => ?_, fun hrun hoffer hinput => ?_, State.statPos_of_query, State.statPos_of_decode, rfl, rfl⟩
  · rw [State.status_of_session hrun, if_pos (State.heldOnOutput_of_isSome hoffer)]
  · rw [State.status_of_session hrun, State.heldOnOutput_of_none hoffer, hinput]
    rfl
  · rw [State.status_of_session hrun, State.heldOnOutput_of_none hoffer, hinput]
    rfl

end Sys2Proof.Machine
end

section
/-! PROOF. Fault entry (R306), its stickiness, and the state after reset (R320). -/

namespace Sys2Proof.Machine

/-! ## The sizes of what a fault leaves unspecified (R190, R306) -/

theorem mapsAfterFault_length (n : Nat) (m : MapRam) :
    (mapsAfterFault n m).mapL.length = m.mapL.length ∧ (mapsAfterFault n m).mapD.length = m.mapD.length :=
  ⟨List.length_mapIdx, List.length_mapIdx⟩

theorem scratchAfterFault_length (n : Nat) (d : CodeRegs) :
    (scratchAfterFault n d).len.length = d.len.length ∧ (scratchAfterFault n d).clcl.length = d.clcl.length :=
  ⟨List.length_mapIdx, List.length_mapIdx⟩

/-! ## No step without a session (R279, R306) -/

/-- R279, R300, R302: without a session, and with nothing left to do, only the host's turn can change anything. -/
theorem agentTurn_of_noSession {s : State} {a : Agent} (hrest : s.RestOk) (hs : s.st.noSession = true) (ha : a ≠ .host) :
    agentTurn a s = .next s := by
  obtain ⟨-, hoffer⟩ := hrest hs
  cases a with
  | dec => exact decTurn_of_noSession hrest hs
  | src => exact srcTurn_of_idle (.inl hs)
  | snk => exact snkTurn_of_noOffer hoffer
  | host => exact absurd rfl ha

/-- Settles O53: fault entry is one assignment, which keeps the validity of every table (`lookupTable_afterFault`) and the sizes of
the maps and the scratch; after it no agent but the host changes anything (`agentTurn_of_noSession`). -/
theorem faultEntry : Obligations.FaultEntry := by
  refine ⟨?_, fun s a ts hrest hs hturns ha => ?_⟩
  · rintro s k sub t rfl
    obtain ⟨hmapL, hmapD⟩ := mapsAfterFault_length s.free s.cm
    obtain ⟨hlen, hclcl⟩ := scratchAfterFault_length s.free s.hd
    exact ⟨rfl, rfl, rfl, rfl, rfl, rfl, rfl, rfl, rfl, rfl, rfl, rfl, rfl, rfl, rfl, rfl, rfl, rfl,
      lookupTable_afterFault s.free s.ht, hmapL, hmapD, hlen, hclcl⟩
  · exact (step_of_turn hturns).trans (agentTurn_of_noSession (s := s.setTurns ts) hrest hs ha)

/-! ## The state after reset (R320) -/

/-- Settles O55: no table is valid (`lookupTable_none`), every category has its reset block state (`blkReset_get`), and the other
items are those written in the reset state. -/
theorem resetValues : Obligations.ResetValues :=
  ⟨rfl, rfl, rfl, rfl, rfl, rfl, rfl, rfl, rfl, rfl, rfl, lookupTable_none, rfl, rfl, blkReset_get, rfl, rfl, rfl, rfl, rfl, rfl,
    rfl, rfl, rfl, rfl, rfl, rfl⟩

theorem reset_cursorOk : BitReader.reset.CursorOk := Nat.le_refl 0

theorem reset_errOk : State.reset.ErrOk := iff_of_false nofun (not_not_intro rfl)

theorem reset_restOk : State.reset.RestOk := fun _ => ⟨rfl, rfl⟩

/-- Settles O56: each part of the invariant holds of its items at reset. -/
theorem invariantAtReset : Obligations.InvariantAtReset :=
  ⟨reset_cursorOk, reset_registerOk, reset_mem_wf, reset_errOk, reset_restOk⟩

end Sys2Proof.Machine
end
